-- ==== Sys2Proof/Word.lean ====
section
/-! DEFINITION. The machine's word, byte, register index and access width (00_scope.md R10, R31; 10_state.md R100). -/

namespace Sys2Proof

/-- A 32-bit word: registers, addresses while they are computed, instructions (00_scope.md R10). -/
abbrev Word := BitVec 32

/-- The smallest addressable unit (20_memory.md R200). -/
abbrev Byte := BitVec 8

/-- An index into the GPR file (10_state.md R100). -/
abbrev Reg := Fin 32

/-- An index into the COP0 index space (10_state.md R130, 20_memory.md R205). -/
abbrev CopReg := Fin 32

/-- The width of a bus access (20_memory.md R251). -/
inductive Width where
  | byte
  | half
  | word
  deriving DecidableEq, Repr

/-- How many bytes an access of a width moves (20_memory.md R251). -/
def Width.bytes : Width → Nat
  | .byte => 1
  | .half => 2
  | .word => 4

end Sys2Proof
end

