-- ==== Sys2Proof/Config.lean ====
section
/-! DEFINITION. What an implementation fixes: the fixed sizes and addresses, the parameters the spec leaves open with
their defaults, and the free values, which are constants with no body (00_scope.md section 4, 93_implementation_defined.md
1.3 and 1.4). -/

namespace Sys2Proof

namespace Config

/-- `RAM_SIZE` (00_scope.md R13). -/
def ramSize : Nat := 0x200000
/-- `SCRATCH_SIZE` (00_scope.md R15). -/
def scratchSize : Nat := 0x400
/-- `BIOS_BASE`, a physical address (00_scope.md R16). -/
def biosBase : Nat := 0x1FC00000
/-- `BIOS_SIZE` (00_scope.md R16). -/
def biosSize : Nat := 0x80000
/-- `PRID_VALUE` (00_scope.md R17). -/
def pridValue : Word := 0x00000002#32
/-- The reset vector (60_exceptions.md R1030, 70_reset_and_hazards.md R1100). -/
def resetVector : Word := 0xBFC00000#32

/-- `draw(TAR)`: the free value of the n-th draw, when that draw is a read of TAR (10_state.md R133). -/
opaque drawTar : Nat → Word

/-- `draw(CE)`: the free value of the n-th draw, when that draw is CAUSE.CE at the entry of an exception other than CpU
(60_exceptions.md R1020). -/
opaque drawCE : Nat → BitVec 2

/-- `DeviceRead(p, n)`: the device oracle's answer to the k-th draw, a read of n bytes at the physical address p
(00_scope.md R21, 20_memory.md R230). Arguments: k, p, n. -/
opaque deviceRead : Nat → Nat → Nat → Word

end Config

/-- `HILO_HAZARD`: what an instruction that writes HI or LO too soon after an MFHI or MFLO does (00_scope.md R20,
70_reset_and_hazards.md R1141). -/
inductive HiLoHazard where
  /-- The step is faulted. -/
  | fault
  /-- The instruction executes by its rule. -/
  | ignore
  deriving DecidableEq, Repr

/-- The parameters the spec leaves to the model, each with the spec's default (00_scope.md R14, R15, R18, R19, R20;
93_implementation_defined.md 1.4). -/
structure Params where
  /-- `SR_RESET` (R18). -/
  srReset : Word := 0x00400000#32
  /-- `RAM_WINDOW_END`, a physical address (R14). -/
  ramWindowEnd : Nat := 0x800000
  /-- `SCRATCH_BASE`, a physical address (R15). -/
  scratchBase : Nat := 0x1F800000
  /-- `BD_ON_UNTAKEN_BRANCH` (R19). -/
  bdOnUntakenBranch : Bool := false
  /-- `HILO_HAZARD` (R20). -/
  hiloHazard : HiLoHazard := .fault
  deriving DecidableEq, Repr

/-- The spec's defaults. -/
def Params.default : Params := { }

/-- Every region bound is a multiple of 4 (20_memory.md R224), and the scratchpad lies whole inside the 29-bit
physical space. -/
abbrev Params.wf (p : Params) : Prop :=
  p.ramWindowEnd % 4 = 0 ∧ p.scratchBase % 4 = 0 ∧ p.scratchBase + Config.scratchSize ≤ 0x20000000

end Sys2Proof
end

