-- ==== Sys2Proof/Machine/State.lean ====
section
/-! DEFINITION. The state of the machine, as plain data: every piece of state 10_state.md and 20_memory.md name, and the
state after reset. -/

namespace Sys2Proof.Machine

/-- Why the machine stops with a fault. -/
inductive Fault where
  /-- `HiLoHazard`: raised by MULT, MULTU, DIV, DIVU, MTHI and MTLO within two steps after an MFHI or MFLO, when
  HILO_HAZARD = fault (70_reset_and_hazards.md R1141). Safe: it stops where the hardware goes on with a corrupted value. -/
  | hiloHazard
  deriving DecidableEq, Repr

/-- Why a step is refused. -/
inductive Refusal where
  /-- An instruction that has no meaning yet, by its mnemonic. Raised by `exec` alone. Safe. -/
  | notModelled (mnemonic : String)
  /-- `BranchInDelaySlot`: raised by every branch and jump that sits in the slot of another (40_cycle.md R405). Safe. -/
  | branchInDelaySlot
  /-- `UnnamedCop0Encoding`: raised by the COP0 encodings the source does not name, once COP0 is usable (30_encoding.md
  R341). Safe. -/
  | unnamedCop0Encoding
  /-- `Cop2NotModelled`: raised by COP2, LWC2 and SWC2 with SR.CU2 = 1, which reach the geometry unit outside this block
  (45_system_cop.md R931). Safe. -/
  | cop2NotModelled
  deriving DecidableEq, Repr

/-- The run status (10_state.md R115). -/
inductive RunStatus where
  | running
  | refused (r : Refusal)
  | faulted (f : Fault)
  deriving DecidableEq, Repr

/-- An exception with what it records (60_exceptions.md R1000, R1001). -/
inductive Exc where
  | int
  | adEL (addr : Word)
  | adES (addr : Word)
  | sys
  | bp
  | ri
  | cpU (cop : BitVec 2)
  | ov
  deriving DecidableEq, Repr

/-- The load delay latch `ld` (10_state.md R110). -/
structure LoadLatch where
  pending : Bool
  reg : Reg
  value : Word
  deriving DecidableEq, Repr

/-- The branch delay latch `bd` (10_state.md R112). -/
structure BranchLatch where
  pending : Bool
  target : Word
  deriving DecidableEq, Repr

/-- The COP0 register bank (10_state.md R132). TAR has no storage (R133). -/
structure Cop0 where
  /-- SR, index 12 (R140). -/
  sr : Word
  /-- CAUSE, index 13 (R150). -/
  cause : Word
  /-- EPC, index 14 (R135). -/
  epc : Word
  /-- BadVaddr, index 8 (R134). -/
  badVaddr : Word
  /-- PRID, index 15 (R136). -/
  prid : Word
  /-- The generic array (R137). -/
  gen : Vector Word 32
  deriving DecidableEq, Repr

/-- The byte arrays behind the router, each a list of (index, byte) cells: indices strictly rising, no cell equal to
what an unlisted index reads as (20_memory.md R221-R223). -/
structure Memory where
  /-- `ram`, indexed by the physical address modulo RAM_SIZE (R221). -/
  ram : List Host.Cell
  /-- `scratch`, indexed from SCRATCH_BASE (R222). -/
  scratch : List Host.Cell
  /-- `BIOS_IMAGE`, indexed from BIOS_BASE (R223). -/
  bios : List Host.Cell
  deriving DecidableEq, Repr

/-- One access to device space, with its physical address (20_memory.md R230, R231). -/
inductive DeviceEvent where
  /-- A read and the oracle's answer. -/
  | read (addr : Nat) (width : Width) (value : Word)
  /-- `DeviceWrite(p, n, v)`. -/
  | write (addr : Nat) (width : Width) (value : Word)
  /-- `DeviceWriteMasked(p, v, m)`. -/
  | writeMasked (addr : Nat) (value : Word) (mask : BitVec 4)
  deriving DecidableEq, Repr

/-- The machine's state between steps (40_cycle.md R417: with its latches, a complete description of the core). -/
structure State where
  /-- The GPR file (10_state.md R100). -/
  gpr : Vector Word 32
  /-- HI (10_state.md R108). -/
  hi : Word
  /-- LO (10_state.md R108). -/
  lo : Word
  /-- The fetch pointer (10_state.md R104). -/
  pc : Word
  /-- The address of the executing instruction (10_state.md R104). -/
  currentPc : Word
  /-- The load delay latch (10_state.md R110). -/
  ld : LoadLatch
  /-- The branch delay latch (10_state.md R112). -/
  bd : BranchLatch
  /-- The branch-slot flag (10_state.md R113). -/
  slot : Bool
  /-- The HI/LO read age (10_state.md R114). -/
  hiloAge : Fin 3
  /-- The run status (10_state.md R115). -/
  status : RunStatus
  /-- The COP0 bank (10_state.md R132). -/
  cop0 : Cop0
  /-- RAM, scratchpad and BIOS image (20_memory.md R221-R223). -/
  mem : Memory
  /-- The history of device accesses, newest first (20_memory.md R230, R231). -/
  events : List DeviceEvent
  /-- DESIGN CHOICE (entry 4): the model's own counter of free values drawn so far. -/
  draws : Nat
  /-- The parameters (00_scope.md R14, R15, R18-R20); no step writes them. -/
  params : Params
  deriving DecidableEq, Repr

/-- The state right after reset, with the spec's default parameters (10_state.md R160, 70_reset_and_hazards.md R1100).
DESIGN CHOICE (entries 1, 2, 3): every value R160 calls unspecified is 0 and memory lists nothing. -/
def State.reset : State where
  gpr := Vector.replicate 32 0#32
  hi := 0#32
  lo := 0#32
  pc := Config.resetVector
  currentPc := 0#32
  ld := { pending := false, reg := 0, value := 0#32 }
  bd := { pending := false, target := 0#32 }
  slot := false
  hiloAge := 2
  status := .running
  cop0 := { sr := Params.default.srReset, cause := 0#32, epc := 0#32, badVaddr := 0#32, prid := Config.pridValue,
            gen := Vector.replicate 32 0#32 }
  mem := { ram := [], scratch := [], bios := [] }
  events := []
  draws := 0
  params := Params.default

end Sys2Proof.Machine
end

