-- ==== Sys2Proof/Machine/Flags.lean ====
section
/-! DEFINITION. The core has no status flags (10_state.md R120). This file holds the fields of SR and CAUSE, the updates
exception entry, RFE and COP0 writes make to them, and the overflow tests of ADD, ADDI and SUB. -/

namespace Sys2Proof.Machine

/-! ### SR fields (10_state.md R140) -/

/-- IEc, current interrupt enable. -/
def Sr.iec (sr : Word) : Bool := sr.getLsbD 0
/-- KUc, current mode: true is user (60_exceptions.md R1060). -/
def Sr.kuc (sr : Word) : Bool := sr.getLsbD 1
/-- IEp, previous interrupt enable. -/
def Sr.iep (sr : Word) : Bool := sr.getLsbD 2
/-- KUp, previous mode. -/
def Sr.kup (sr : Word) : Bool := sr.getLsbD 3
/-- IEo, old interrupt enable. -/
def Sr.ieo (sr : Word) : Bool := sr.getLsbD 4
/-- KUo, old mode. -/
def Sr.kuo (sr : Word) : Bool := sr.getLsbD 5
/-- IM[7:0], interrupt mask. -/
def Sr.im (sr : Word) : BitVec 8 := sr.extractLsb' 8 8
/-- IsC, isolate cache. -/
def Sr.isC (sr : Word) : Bool := sr.getLsbD 16
/-- BEV, boot exception vectors. -/
def Sr.bev (sr : Word) : Bool := sr.getLsbD 22
/-- CU0, COP0 usable in user mode. -/
def Sr.cu0 (sr : Word) : Bool := sr.getLsbD 28
/-- CU2, COP2 usable. -/
def Sr.cu2 (sr : Word) : Bool := sr.getLsbD 30

/-- Exception entry pushes the mode stack: SR[5:0] <- SR[3:0] << 2, the rest unchanged (60_exceptions.md R1020). -/
def Sr.push (sr : Word) : Word := (sr &&& ~~~0x3F#32) ||| ((sr &&& 0xF#32) <<< 2)

/-- RFE pops it: SR[3:0] <- SR[5:2], the rest unchanged (45_system_cop.md R920). -/
def Sr.pop (sr : Word) : Word := (sr &&& ~~~0xF#32) ||| ((sr >>> 2) &&& 0xF#32)

/-! ### CAUSE fields (10_state.md R150) -/

/-- ExcCode, bits 6:2. -/
def Cause.excCode (cause : Word) : BitVec 5 := cause.extractLsb' 2 5
/-- IP[7:0], bits 15:8. -/
def Cause.ip (cause : Word) : BitVec 8 := cause.extractLsb' 8 8
/-- CE, bits 29:28. -/
def Cause.ce (cause : Word) : BitVec 2 := cause.extractLsb' 28 2
/-- BD, bit 31. -/
def Cause.bd (cause : Word) : Bool := cause.getLsbD 31

/-- Exception entry writes ExcCode, CE and BD and nothing else (60_exceptions.md R1020, 10_state.md R151). -/
def Cause.enter (cause : Word) (code : BitVec 5) (ce : BitVec 2) (bd : Bool) : Word :=
  (cause &&& ~~~0xB000007C#32) ||| (code.setWidth 32 <<< 2) ||| (ce.setWidth 32 <<< 28) |||
    ((BitVec.ofBool bd).setWidth 32 <<< 31)

/-- An instruction writes bits 9:8 and nothing else (10_state.md R131). -/
def Cause.softWrite (cause v : Word) : Word := (cause &&& ~~~0x300#32) ||| (v &&& 0x300#32)

/-- The host drives bits 15:10 and nothing else (60_exceptions.md R1041). -/
def Cause.setLines (cause : Word) (lines : BitVec 6) : Word :=
  (cause &&& ~~~0xFC00#32) ||| (lines.setWidth 32 <<< 10)

/-! ### Overflow (41_alu.md R510, R512, R520) -/

/-- Signed overflow of a + b: the operands agree in sign and the sum differs (R510). -/
def addOverflows (a b : Word) : Bool := ((a ^^^ (a + b)) &&& (b ^^^ (a + b))).msb

/-- Signed overflow of a - b: the operands differ in sign and the difference differs from a (R512). -/
def subOverflows (a b : Word) : Bool := ((a ^^^ b) &&& (a ^^^ (a - b))).msb

/-! ### Signs, for the branches (43_branch.md R712-R717) -/

/-- signed(v) < 0. -/
def isNeg (v : Word) : Bool := v.toInt < 0
/-- signed(v) >= 0. -/
def isNonneg (v : Word) : Bool := 0 ≤ v.toInt
/-- signed(v) <= 0. -/
def isNonpos (v : Word) : Bool := v.toInt ≤ 0
/-- signed(v) > 0. -/
def isPos (v : Word) : Bool := 0 < v.toInt

/-- The truth value a comparison writes into a GPR (41_alu.md R518, R519). -/
def boolWord (b : Bool) : Word := if b then 1#32 else 0#32

end Sys2Proof.Machine
end

