-- ==== Sys2Proof/Machine/Mem.lean ====
section
/-! DEFINITION. Byte arrays in canonical form, the bus router, and the accesses that pass it: reads, writes, masked
writes (20_memory.md). -/

namespace Sys2Proof.Machine

/-! ### One byte array -/

/-- What an unlisted index reads as. DESIGN CHOICE, unsafe (entries 2, 3): the spec gives RAM and scratchpad no reset
contents (10_state.md R160), and the BIOS image is an input (00_scope.md R16). -/
def unlistedByte : Byte := 0#8

/-- The byte at an index. -/
def cellsRead : List Host.Cell → Nat → Byte
  | [], _ => unlistedByte
  | (k, b) :: rest, a => if k = a then b else cellsRead rest a

/-- Put a cell in front, unless it holds what an unlisted index reads as. -/
def cellsCons (a : Nat) (b : Byte) (rest : List Host.Cell) : List Host.Cell :=
  if b = unlistedByte then rest else (a, b) :: rest

/-- Set the byte at an index, keeping the canonical form. -/
def cellsWrite : List Host.Cell → Nat → Byte → List Host.Cell
  | [], a, b => cellsCons a b []
  | (k, c) :: rest, a, b =>
    if a < k then cellsCons a b ((k, c) :: rest)
    else if a = k then cellsCons a b rest
    else (k, c) :: cellsWrite rest a b

/-- The canonical form of an array of `n` bytes: indices strictly rising and below `n`, and no cell that holds what an
unlisted index reads as. -/
abbrev cellsWf (n : Nat) (m : List Host.Cell) : Prop :=
  m.Pairwise (fun c d => c.1 < d.1) ∧ ∀ c ∈ m, c.1 < n ∧ c.2 ≠ unlistedByte

/-- The three arrays are in canonical form. -/
abbrev Memory.wf (m : Memory) : Prop :=
  cellsWf Config.ramSize m.ram ∧ cellsWf Config.scratchSize m.scratch ∧ cellsWf Config.biosSize m.bios

/-! ### The router -/

/-- The physical address of a virtual one: the 29-bit mask (20_memory.md R210). -/
def phys (a : Word) : Nat := (a &&& 0x1FFFFFFF#32).toNat

/-- The regions of the physical space (20_memory.md R220). -/
inductive Region where
  | scratch
  | ram
  | bios
  | device
  deriving DecidableEq, Repr

/-- The region of a physical address, tested in the source's order (20_memory.md R220). -/
def route (c : Params) (p : Nat) : Region :=
  if c.scratchBase ≤ p ∧ p < c.scratchBase + Config.scratchSize then .scratch
  else if p < c.ramWindowEnd then .ram
  else if Config.biosBase ≤ p ∧ p < Config.biosBase + Config.biosSize then .bios
  else .device

/-- A byte's place behind the router: its region and its index there (20_memory.md R221-R223). For device space the
index is the physical address (R230). -/
structure Place where
  region : Region
  index : Nat
  deriving DecidableEq, Repr

/-- Where a physical address lands (20_memory.md R221-R223, R230). -/
def placeOf (c : Params) (p : Nat) : Place :=
  match route c p with
  | .scratch => ⟨.scratch, p - c.scratchBase⟩
  | .ram => ⟨.ram, p % Config.ramSize⟩
  | .bios => ⟨.bios, p - Config.biosBase⟩
  | .device => ⟨.device, p⟩

/-- The byte stored at a place; the core stores none in device space (20_memory.md R230). -/
def Memory.read (m : Memory) (l : Place) : Option Byte :=
  match l.region with
  | .scratch => some (cellsRead m.scratch l.index)
  | .ram => some (cellsRead m.ram l.index)
  | .bios => some (cellsRead m.bios l.index)
  | .device => none

/-- Store a byte at a place. A RAM byte is stored unless the cache is isolated (20_memory.md R221, R240), a scratchpad
byte always (R222), a BIOS byte never (R223, R240); device space holds none (R230). -/
def Memory.store (m : Memory) (isolated : Bool) (l : Place) (b : Byte) : Memory :=
  match l.region with
  | .scratch => { m with scratch := cellsWrite m.scratch l.index b }
  | .ram => if isolated then m else { m with ram := cellsWrite m.ram l.index b }
  | .bios => m
  | .device => m

/-- Put a byte into an array from outside the core (the BIOS image, a host copy); device space holds none. -/
def Memory.place (m : Memory) (l : Place) (b : Byte) : Memory :=
  match l.region with
  | .scratch => { m with scratch := cellsWrite m.scratch l.index b }
  | .ram => { m with ram := cellsWrite m.ram l.index b }
  | .bios => { m with bios := cellsWrite m.bios l.index b }
  | .device => m

/-- The byte a read of a virtual address would return from RAM, scratchpad or BIOS; none in device space. -/
def State.byteAt (s : State) (a : Word) : Option Byte := s.mem.read (placeOf s.params (phys a))

/-! ### Assembling and cutting values (20_memory.md R200, R224) -/

/-- Byte k of a word. -/
def byteOf (v : Word) (k : Nat) : Byte := v.extractLsb' (8 * k) 8

/-- The low bytes of a word that an access of a width moves, the rest 0. -/
def lowBytes (w : Width) (v : Word) : Word :=
  match w with
  | .byte => v &&& 0xFF#32
  | .half => v &&& 0xFFFF#32
  | .word => v

/-- The stored byte at physical address p, 0 where none is stored. -/
def State.storedByte (s : State) (p : Nat) : Byte := (s.mem.read (placeOf s.params p)).getD 0#8

/-- The little-endian value of `w.bytes` stored bytes from physical address p on, zero-extended (20_memory.md R224). -/
def State.storedValue (s : State) (p : Nat) (w : Width) : Word :=
  match w with
  | .byte => (s.storedByte p).setWidth 32
  | .half => (s.storedByte (p + 1) ++ s.storedByte p).setWidth 32
  | .word => s.storedByte (p + 3) ++ s.storedByte (p + 2) ++ s.storedByte (p + 1) ++ s.storedByte p

/-- Store bytes, each at its offset from physical address p (20_memory.md R224), under the cache-isolation rule. -/
def Memory.storeAll (m : Memory) (c : Params) (isolated : Bool) (p : Nat) : List (Nat × Byte) → Memory
  | [] => m
  | (k, b) :: rest => (m.store isolated (placeOf c (p + k)) b).storeAll c isolated p rest

/-- The bytes a plain write of a width stores, with their offsets (20_memory.md R200). -/
def widthBytes (w : Width) (v : Word) : List (Nat × Byte) :=
  match w with
  | .byte => [(0, byteOf v 0)]
  | .half => [(0, byteOf v 0), (1, byteOf v 1)]
  | .word => [(0, byteOf v 0), (1, byteOf v 1), (2, byteOf v 2), (3, byteOf v 3)]

/-- The bytes a masked write stores: bit k of the mask enables byte k (00_scope.md R33). -/
def maskedBytes (v : Word) (mask : BitVec 4) : List (Nat × Byte) :=
  (widthBytes .word v).filter fun c => mask.getLsbD c.1

end Sys2Proof.Machine
end

