-- ==== Sys2Proof/Machine/Operands.lean ====
section
/-! DEFINITION. Operand forms: register reads and the immediates of 30_encoding.md R310, effective addresses and branch
targets. -/

namespace Sys2Proof.Machine

/-- `x[i]`, the GPR read: index 0 always yields 0 (10_state.md R100, 00_scope.md R32). -/
def State.x (s : State) (i : Reg) : Word := if i = 0 then 0#32 else s.gpr[i.val]

/-- `simm`: the sign-extended immediate. -/
def simm (imm : BitVec 16) : Word := imm.signExtend 32
/-- `zimm`: the zero-extended immediate. -/
def zimm (imm : BitVec 16) : Word := imm.setWidth 32
/-- `uimm`: the immediate in the high half. -/
def uimm (imm : BitVec 16) : Word := imm ++ 0#16
/-- `boff`: the signed byte offset of a branch. -/
def boff (imm : BitVec 16) : Word := simm imm <<< 2

/-- The low five bits of a register as a shift amount (30_encoding.md R310). -/
def shiftAmount (v : Word) : Nat := (v.extractLsb' 0 5).toNat

/-- The effective address of a load or store: base plus signed offset, modulo 2^32 (44_loadstore.md R800). -/
def State.ea (s : State) (rs : Reg) (imm : BitVec 16) : Word := s.x rs + simm imm

/-- The target of a conditional branch: the delay slot's address plus the offset (43_branch.md R700). -/
def State.branchTarget (s : State) (imm : BitVec 16) : Word := s.pc + boff imm

/-- `jtarget`: the region of the delay slot and the 26-bit target (30_encoding.md R310, 43_branch.md R720). -/
def State.jumpTarget (s : State) (target : BitVec 26) : Word :=
  (s.pc &&& 0xF0000000#32) ||| (target.setWidth 32 <<< 2)

/-- The link value, the address after the delay slot (43_branch.md R702). -/
def State.link (s : State) : Word := s.currentPc + 8#32

/-- The word an unaligned access reaches: `ea & ~3` (20_memory.md R250). -/
def alignedWord (ea : Word) : Word := ea &&& ~~~3#32

/-- `ea[1:0]` as a number. -/
def byteLane (ea : Word) : Nat := (ea.extractLsb' 0 2).toNat

/-- The alignment an access of a width requires (20_memory.md R250). -/
def isAligned (w : Width) (ea : Word) : Bool :=
  match w with
  | .byte => true
  | .half => ea.extractLsb' 0 1 == 0#1
  | .word => ea.extractLsb' 0 2 == 0#2

end Sys2Proof.Machine
end

