-- ==== Sys2Proof/Machine/Ops.lean ====
section
/-! DEFINITION. The shared operations of the machine: register and memory access, the end of a step with the delay-slot
protocol, taking an exception and the return from one, the COP0 accessors, and the checks instructions share. Throughout,
`s` is the state after the fetch: `s.ld`, `s.bd` and `s.slot` are still the spec's `prev`, `bpb` and `inSlot` (40_cycle.md
R401). -/

namespace Sys2Proof.Machine

/-! ### Registers -/

/-- `writeGpr`: the GPR write, index 0 included (10_state.md R102). -/
def State.writeGpr (s : State) (i : Reg) (v : Word) : State := { s with gpr := s.gpr.set i.val v }

/-- HI <- h, LO <- l (10_state.md R108). -/
def State.setHiLo (s : State) (h l : Word) : State := { s with hi := h, lo := l }

/-- A new COP0 bank. -/
def State.setCop0 (s : State) (c : Cop0) : State := { s with cop0 := c }

/-- One free value has been drawn (entry 4). -/
def State.drawn (s : State) : State := { s with draws := s.draws + 1 }

/-! ### Memory (20_memory.md R220-R240) -/

/-- `MemRead(a, n)`: the value read, zero-extended, and the state after it. A device read draws the oracle's answer and
is recorded (R230, R231); any other read changes nothing (R252). SR.IsC has no effect on it (R241). -/
def State.memRead (s : State) (a : Word) (w : Width) : Word × State :=
  match route s.params (phys a) with
  | .scratch | .ram | .bios => (s.storedValue (phys a) w, s)
  | .device =>
    let v := lowBytes w (Config.deviceRead s.draws (phys a) w.bytes)
    (v, { s.drawn with events := .read (phys a) w v :: s.events })

/-- `MemWrite(a, n, v)`. A device write is recorded and changes no other state (R230); IsC does not inhibit it (R240). -/
def State.memWrite (s : State) (a : Word) (w : Width) (v : Word) : State :=
  match route s.params (phys a) with
  | .scratch | .ram | .bios =>
    { s with mem := s.mem.storeAll s.params (Sr.isC s.cop0.sr) (phys a) (widthBytes w v) }
  | .device => { s with events := .write (phys a) w (lowBytes w v) :: s.events }

/-- `MemWriteMasked(a, v, m)` at a word-aligned address (00_scope.md R33, 20_memory.md R230). -/
def State.memWriteMasked (s : State) (a : Word) (v : Word) (mask : BitVec 4) : State :=
  match route s.params (phys a) with
  | .scratch | .ram | .bios =>
    { s with mem := s.mem.storeAll s.params (Sr.isC s.cop0.sr) (phys a) (maskedBytes v mask) }
  | .device => { s with events := .writeMasked (phys a) v mask :: s.events }

/-! ### The end of a step that takes no exception (40_cycle.md R407, R410-R413) -/

/-- What an instruction asks of the register file and the latches: the one GPR it writes directly (10_state.md R103), the
delayed load it makes (R110), the delayed jump it makes (R112), whether it is a branch or jump (40_cycle.md R413), and
whether it is an MFHI or MFLO (R411). -/
structure Effect where
  write : Option (Reg × Word) := none
  load : Option (Reg × Word) := none
  jump : Option Word := none
  branch : Bool := false
  readsHiLo : Bool := false
  deriving DecidableEq, Repr

/-- The instruction writes GPR i directly or loads into it, so that it supersedes a pending load to i (40_cycle.md R407). -/
def Effect.targets (e : Effect) (i : Reg) : Bool :=
  e.write.any (fun p => p.1 == i) || e.load.any (fun p => p.1 == i)

/-- The GPR file after the instruction's own direct write (10_state.md R102). -/
def State.applyWrite (s : State) (e : Effect) : State :=
  match e.write with
  | some (i, v) => s.writeGpr i v
  | none => s

/-- The load delay resolution (40_cycle.md R407): the pending load of the previous step reaches its register, unless this
step's instruction writes that register or loads into it. -/
def State.resolveLoad (s : State) (e : Effect) : State :=
  if s.ld.pending && !e.targets s.ld.reg then s.writeGpr s.ld.reg s.ld.value else s

/-- `gpr[0] <- 0` (40_cycle.md R410). -/
def State.clearZero (s : State) : State := s.writeGpr 0 0#32

/-- The load latch after the step: the load it made, or nothing pending (40_cycle.md R401, 10_state.md R110). -/
def LoadLatch.after (l : LoadLatch) (e : Effect) : LoadLatch :=
  match e.load with
  | some (i, v) => { pending := true, reg := i, value := v }
  | none => { l with pending := false }

/-- The branch latch after the instruction, before the commit (10_state.md R112). -/
def BranchLatch.after (b : BranchLatch) (e : Effect) : BranchLatch :=
  match e.jump with
  | some t => { pending := true, target := t }
  | none => b

/-- The HI/LO read age of a step that is no MFHI or MFLO: one more, at most 2 (40_cycle.md R411). -/
def ageOlder (a : Fin 3) : Fin 3 := if a = 0 then 1 else 2

/-- The end of a step whose instruction completed: load resolution, zero register, HI/LO age, branch-slot flag, and last
the branch commit when a branch was pending as the step began (40_cycle.md R407, R410-R414). -/
def State.retire (s : State) (e : Effect) : State :=
  let r := ((s.applyWrite e).resolveLoad e).clearZero
  let b := s.bd.after e
  { r with
    ld := s.ld.after e
    hiloAge := if e.readsHiLo then 0 else ageOlder s.hiloAge
    slot := e.branch
    pc := if s.bd.pending then b.target else s.pc
    bd := if s.bd.pending then { b with pending := false } else b }

/-- The instruction completes with an effect. -/
def State.complete (s : State) (e : Effect) : Host.Outcome State Fault Refusal := .next (s.retire e)

/-- It writes one GPR directly. -/
def State.completeWrite (s : State) (i : Reg) (v : Word) : Host.Outcome State Fault Refusal :=
  s.complete { write := some (i, v) }

/-- `DelayedLoad(i, v)` and nothing else. -/
def State.completeLoad (s : State) (i : Reg) (v : Word) : Host.Outcome State Fault Refusal :=
  s.complete { load := some (i, v) }

/-! ### Taking an exception (60_exceptions.md R1020, 40_cycle.md R409) -/

/-- The exception code (60_exceptions.md R1000). -/
def Exc.code : Exc → BitVec 5
  | .int => 0
  | .adEL _ => 4
  | .adES _ => 5
  | .sys => 8
  | .bp => 9
  | .ri => 10
  | .cpU _ => 11
  | .ov => 12

/-- CAUSE.CE at entry: the coprocessor of a CpU, else a free value (60_exceptions.md R1020). -/
def State.entryCE (s : State) : Exc → BitVec 2
  | .cpU n => n
  | .int | .adEL _ | .adES _ | .sys | .bp | .ri | .ov => Config.drawCE s.draws

/-- BadVaddr after entry: written by AdEL and AdES only (60_exceptions.md R1022). -/
def Exc.badVaddr (old : Word) : Exc → Word
  | .adEL a | .adES a => a
  | .int | .sys | .bp | .ri | .cpU _ | .ov => old

/-- `DelaySlotTest()` (60_exceptions.md R1021). -/
def State.inDelaySlot (s : State) : Bool := s.bd.pending || (s.params.bdOnUntakenBranch && s.slot)

/-- The general exception vector, selected by SR.BEV (60_exceptions.md R1030). -/
def generalVector (sr : Word) : Word := if Sr.bev sr then 0xBFC00180#32 else 0x80000080#32

/-- EPC at entry: the victim, or the branch before it (60_exceptions.md R1020, R1021). -/
def State.entryEpc (s : State) (victim : Word) : Word := if s.inDelaySlot then victim - 4#32 else victim

/-- The COP0 bank after entry (60_exceptions.md R1020). -/
def State.entryCop0 (s : State) (e : Exc) (victim : Word) : Cop0 :=
  { s.cop0 with
    sr := Sr.push s.cop0.sr
    cause := Cause.enter s.cop0.cause e.code (s.entryCE e) s.inDelaySlot
    epc := s.entryEpc victim
    badVaddr := e.badVaddr s.cop0.badVaddr }

/-- The exception path of a step: the previous step's load is committed, the zero register cleared, and the exception
entered with a victim address (40_cycle.md R409, R411; 60_exceptions.md R1020). -/
def State.takeException (s : State) (e : Exc) (victim : Word) : State :=
  let r := (s.resolveLoad { }).clearZero
  { r with
    ld := { s.ld with pending := false }
    hiloAge := ageOlder s.hiloAge
    cop0 := s.entryCop0 e victim
    draws := if e.code = 11 then s.draws else s.draws + 1
    bd := { s.bd with pending := false }
    slot := false
    pc := generalVector s.cop0.sr }

/-- `raise E`: the executing instruction takes an exception (00_scope.md R35). -/
def State.raise (s : State) (e : Exc) : Host.Outcome State Fault Refusal := .next (s.takeException e s.currentPc)

/-- The return from an exception: RFE pops SR's mode stack (45_system_cop.md R920). -/
def State.restoreMode (s : State) : State := s.setCop0 { s.cop0 with sr := Sr.pop s.cop0.sr }

/-! ### COP0 accessors (10_state.md R130, R131) -/

/-- `Cop0Read(i)`: the value and the state after it (a read of TAR draws a free value). -/
def State.cop0Read (s : State) (i : CopReg) : Word × State :=
  match i.val with
  | 6 => (Config.drawTar s.draws, s.drawn)
  | 8 => (s.cop0.badVaddr, s)
  | 12 => (s.cop0.sr, s)
  | 13 => (s.cop0.cause, s)
  | 14 => (s.cop0.epc, s)
  | 15 => (s.cop0.prid, s)
  | _ => (s.cop0.gen[i.val], s)

/-- `Cop0Write(i, v)`. -/
def State.cop0Write (s : State) (i : CopReg) (v : Word) : State :=
  match i.val with
  | 6 | 8 | 14 | 15 => s
  | 12 => s.setCop0 { s.cop0 with sr := v }
  | 13 => s.setCop0 { s.cop0 with cause := Cause.softWrite s.cop0.cause v }
  | _ => s.setCop0 { s.cop0 with gen := s.cop0.gen.set i.val v }

/-! ### Checks instructions share -/

/-- The user-mode address check fails: user mode and bit 31 set (60_exceptions.md R1062). -/
def State.userBlocked (s : State) (a : Word) : Bool := Sr.kuc s.cop0.sr && a.msb

/-- `Cop0UsableCheck()` fails: user mode with CU0 = 0 (45_system_cop.md R901). -/
def State.cop0Blocked (s : State) : Bool := Sr.kuc s.cop0.sr && !Sr.cu0 s.cop0.sr

/-- A COP0 instruction: CpU(0) unless COP0 is usable (45_system_cop.md R901). -/
def State.withCop0 (s : State) (k : Host.Outcome State Fault Refusal) : Host.Outcome State Fault Refusal :=
  if s.cop0Blocked then s.raise (.cpU 0#2) else k

/-- An unnamed COP0 encoding (30_encoding.md R341). -/
def State.unnamedCop0 (s : State) : Host.Outcome State Fault Refusal := s.withCop0 (.refused .unnamedCop0Encoding)

/-- A COP2 instruction (45_system_cop.md R931). -/
def State.cop2 (s : State) : Host.Outcome State Fault Refusal :=
  if Sr.cu2 s.cop0.sr then .refused .cop2NotModelled else s.raise (.cpU 2#2)

/-- `HazardCheck()` fails: an MFHI or MFLO completed in one of the two previous steps and HILO_HAZARD = fault
(70_reset_and_hazards.md R1141). -/
def State.hiloBlocked (s : State) : Bool := s.params.hiloHazard == .fault && s.hiloAge != 2

/-- An instruction that writes HI or LO: the hazard check comes first (70_reset_and_hazards.md R1141). -/
def State.completeHiLo (s : State) (h l : Word) : Host.Outcome State Fault Refusal :=
  if s.hiloBlocked then .fault .hiloHazard else (s.setHiLo h l).complete { }

/-- A branch or jump completes, unless it sits in the slot of another, where the step is refused (40_cycle.md R405). -/
def State.completeBranch (s : State) (e : Effect) : Host.Outcome State Fault Refusal :=
  if s.slot then .refused .branchInDelaySlot else s.complete { e with branch := true }

/-- The delayed jump of a conditional branch: taken or nothing (43_branch.md R701). -/
def State.jumpIf (s : State) (c : Bool) (imm : BitVec 16) : Option Word := if c then some (s.branchTarget imm) else none

/-- A conditional branch that does not link (43_branch.md R701). -/
def State.branchIf (s : State) (c : Bool) (imm : BitVec 16) : Host.Outcome State Fault Refusal :=
  s.completeBranch { jump := s.jumpIf c imm }

/-- An aligned load: alignment check, user-mode check, read (44_loadstore.md R801). -/
def State.loading (s : State) (w : Width) (ea : Word) (k : Word → State → Host.Outcome State Fault Refusal) :
    Host.Outcome State Fault Refusal :=
  if !isAligned w ea || s.userBlocked ea then s.raise (.adEL ea) else k (s.memRead ea w).1 (s.memRead ea w).2

/-- An unaligned load: user-mode check on `ea`, then the whole aligned word (44_loadstore.md R831, R832). -/
def State.loadingWord (s : State) (ea : Word) (k : Word → State → Host.Outcome State Fault Refusal) :
    Host.Outcome State Fault Refusal :=
  if s.userBlocked ea then s.raise (.adEL ea)
  else k (s.memRead (alignedWord ea) .word).1 (s.memRead (alignedWord ea) .word).2

/-- The value LWL and LWR merge into: the pending load to the same register, else the register (44_loadstore.md R830). -/
def State.mergeSource (s : State) (t : Reg) : Word := if s.ld.pending && s.ld.reg == t then s.ld.value else s.x t

/-- An aligned store: alignment check, user-mode check, write (44_loadstore.md R801, R803). -/
def State.storing (s : State) (w : Width) (ea v : Word) : Host.Outcome State Fault Refusal :=
  if !isAligned w ea || s.userBlocked ea then s.raise (.adES ea) else (s.memWrite ea w v).complete { }

/-- An unaligned store: user-mode check on `ea`, then one masked write of the aligned word (44_loadstore.md R850, R851). -/
def State.storingMasked (s : State) (ea v : Word) (mask : BitVec 4) : Host.Outcome State Fault Refusal :=
  if s.userBlocked ea then s.raise (.adES ea) else (s.memWriteMasked (alignedWord ea) v mask).complete { }

end Sys2Proof.Machine
end

