-- ==== Sys2Proof/Machine/Alu.lean ====
section
/-! DEFINITION. Register-register ALU (41_alu.md section 2). -/

namespace Sys2Proof.Machine

/-- ADD: the sum, or Ov with rd unwritten (R510, R520). -/
def execAdd (rd rs rt : Reg) (s : State) : Host.Outcome State Fault Refusal :=
  if addOverflows (s.x rs) (s.x rt) then s.raise .ov else s.completeWrite rd (s.x rs + s.x rt)

/-- ADDU: the sum modulo 2^32 (R511). -/
def execAddu (rd rs rt : Reg) (s : State) : Host.Outcome State Fault Refusal :=
  s.completeWrite rd (s.x rs + s.x rt)

/-- SUB: the difference, or Ov with rd unwritten (R512, R520). -/
def execSub (rd rs rt : Reg) (s : State) : Host.Outcome State Fault Refusal :=
  if subOverflows (s.x rs) (s.x rt) then s.raise .ov else s.completeWrite rd (s.x rs - s.x rt)

/-- SUBU: the difference modulo 2^32 (R513). -/
def execSubu (rd rs rt : Reg) (s : State) : Host.Outcome State Fault Refusal :=
  s.completeWrite rd (s.x rs - s.x rt)

/-- AND (R514). -/
def execAnd (rd rs rt : Reg) (s : State) : Host.Outcome State Fault Refusal :=
  s.completeWrite rd (s.x rs &&& s.x rt)

/-- OR (R515). -/
def execOr (rd rs rt : Reg) (s : State) : Host.Outcome State Fault Refusal :=
  s.completeWrite rd (s.x rs ||| s.x rt)

/-- XOR (R516). -/
def execXor (rd rs rt : Reg) (s : State) : Host.Outcome State Fault Refusal :=
  s.completeWrite rd (s.x rs ^^^ s.x rt)

/-- NOR (R517). -/
def execNor (rd rs rt : Reg) (s : State) : Host.Outcome State Fault Refusal :=
  s.completeWrite rd (~~~(s.x rs ||| s.x rt))

/-- SLT: signed comparison (R518). -/
def execSlt (rd rs rt : Reg) (s : State) : Host.Outcome State Fault Refusal :=
  s.completeWrite rd (boolWord ((s.x rs).slt (s.x rt)))

/-- SLTU: unsigned comparison (R519). -/
def execSltu (rd rs rt : Reg) (s : State) : Host.Outcome State Fault Refusal :=
  s.completeWrite rd (boolWord ((s.x rs).ult (s.x rt)))

end Sys2Proof.Machine
end

