-- ==== Sys2Proof/Machine/AluImm.lean ====
section
/-! DEFINITION. Immediate ALU (41_alu.md section 3). -/

namespace Sys2Proof.Machine

/-- ADDI: the sum with the signed immediate, or Ov with rt unwritten (R530, R520). -/
def execAddi (rt rs : Reg) (imm : BitVec 16) (s : State) : Host.Outcome State Fault Refusal :=
  if addOverflows (s.x rs) (simm imm) then s.raise .ov else s.completeWrite rt (s.x rs + simm imm)

/-- ADDIU: the sum with the signed immediate, modulo 2^32 (R531). -/
def execAddiu (rt rs : Reg) (imm : BitVec 16) (s : State) : Host.Outcome State Fault Refusal :=
  s.completeWrite rt (s.x rs + simm imm)

/-- SLTI: signed comparison with the signed immediate (R532). -/
def execSlti (rt rs : Reg) (imm : BitVec 16) (s : State) : Host.Outcome State Fault Refusal :=
  s.completeWrite rt (boolWord ((s.x rs).slt (simm imm)))

/-- SLTIU: unsigned comparison with the sign-extended immediate (R533). -/
def execSltiu (rt rs : Reg) (imm : BitVec 16) (s : State) : Host.Outcome State Fault Refusal :=
  s.completeWrite rt (boolWord ((s.x rs).ult (simm imm)))

/-- ANDI: zero-extended immediate (R534). -/
def execAndi (rt rs : Reg) (imm : BitVec 16) (s : State) : Host.Outcome State Fault Refusal :=
  s.completeWrite rt (s.x rs &&& zimm imm)

/-- ORI: zero-extended immediate (R535). -/
def execOri (rt rs : Reg) (imm : BitVec 16) (s : State) : Host.Outcome State Fault Refusal :=
  s.completeWrite rt (s.x rs ||| zimm imm)

/-- XORI: zero-extended immediate (R536). -/
def execXori (rt rs : Reg) (imm : BitVec 16) (s : State) : Host.Outcome State Fault Refusal :=
  s.completeWrite rt (s.x rs ^^^ zimm imm)

/-- LUI: the immediate in the high half (R537). -/
def execLui (rt : Reg) (imm : BitVec 16) (s : State) : Host.Outcome State Fault Refusal :=
  s.completeWrite rt (uimm imm)

end Sys2Proof.Machine
end

