-- ==== Sys2Proof/Machine/BcondZ.lean ====
section
/-! DEFINITION. The BcondZ words whose rt is none of 0x00, 0x01, 0x10, 0x11: they behave as BLTZ (rt even) or BGEZ
(rt odd) and never link (43_branch.md R718, 30_encoding.md R323). -/

namespace Sys2Proof.Machine

/-- BcondZ with rt = 0x02: as BLTZ, no link (R718). -/
def execBcondzRt02 (rs : Reg) (imm : BitVec 16) (s : State) : Host.Outcome State Fault Refusal :=
  s.branchIf (isNeg (s.x rs)) imm

/-- BcondZ with rt = 0x03: as BGEZ, no link (R718). -/
def execBcondzRt03 (rs : Reg) (imm : BitVec 16) (s : State) : Host.Outcome State Fault Refusal :=
  s.branchIf (isNonneg (s.x rs)) imm

/-- BcondZ with rt = 0x04: as BLTZ, no link (R718). -/
def execBcondzRt04 (rs : Reg) (imm : BitVec 16) (s : State) : Host.Outcome State Fault Refusal :=
  s.branchIf (isNeg (s.x rs)) imm

/-- BcondZ with rt = 0x05: as BGEZ, no link (R718). -/
def execBcondzRt05 (rs : Reg) (imm : BitVec 16) (s : State) : Host.Outcome State Fault Refusal :=
  s.branchIf (isNonneg (s.x rs)) imm

/-- BcondZ with rt = 0x06: as BLTZ, no link (R718). -/
def execBcondzRt06 (rs : Reg) (imm : BitVec 16) (s : State) : Host.Outcome State Fault Refusal :=
  s.branchIf (isNeg (s.x rs)) imm

/-- BcondZ with rt = 0x07: as BGEZ, no link (R718). -/
def execBcondzRt07 (rs : Reg) (imm : BitVec 16) (s : State) : Host.Outcome State Fault Refusal :=
  s.branchIf (isNonneg (s.x rs)) imm

/-- BcondZ with rt = 0x08: as BLTZ, no link (R718). -/
def execBcondzRt08 (rs : Reg) (imm : BitVec 16) (s : State) : Host.Outcome State Fault Refusal :=
  s.branchIf (isNeg (s.x rs)) imm

/-- BcondZ with rt = 0x09: as BGEZ, no link (R718). -/
def execBcondzRt09 (rs : Reg) (imm : BitVec 16) (s : State) : Host.Outcome State Fault Refusal :=
  s.branchIf (isNonneg (s.x rs)) imm

/-- BcondZ with rt = 0x0A: as BLTZ, no link (R718). -/
def execBcondzRt0A (rs : Reg) (imm : BitVec 16) (s : State) : Host.Outcome State Fault Refusal :=
  s.branchIf (isNeg (s.x rs)) imm

/-- BcondZ with rt = 0x0B: as BGEZ, no link (R718). -/
def execBcondzRt0B (rs : Reg) (imm : BitVec 16) (s : State) : Host.Outcome State Fault Refusal :=
  s.branchIf (isNonneg (s.x rs)) imm

/-- BcondZ with rt = 0x0C: as BLTZ, no link (R718). -/
def execBcondzRt0C (rs : Reg) (imm : BitVec 16) (s : State) : Host.Outcome State Fault Refusal :=
  s.branchIf (isNeg (s.x rs)) imm

/-- BcondZ with rt = 0x0D: as BGEZ, no link (R718). -/
def execBcondzRt0D (rs : Reg) (imm : BitVec 16) (s : State) : Host.Outcome State Fault Refusal :=
  s.branchIf (isNonneg (s.x rs)) imm

/-- BcondZ with rt = 0x0E: as BLTZ, no link (R718). -/
def execBcondzRt0E (rs : Reg) (imm : BitVec 16) (s : State) : Host.Outcome State Fault Refusal :=
  s.branchIf (isNeg (s.x rs)) imm

/-- BcondZ with rt = 0x0F: as BGEZ, no link (R718). -/
def execBcondzRt0F (rs : Reg) (imm : BitVec 16) (s : State) : Host.Outcome State Fault Refusal :=
  s.branchIf (isNonneg (s.x rs)) imm

/-- BcondZ with rt = 0x12: as BLTZ, no link (R718). -/
def execBcondzRt12 (rs : Reg) (imm : BitVec 16) (s : State) : Host.Outcome State Fault Refusal :=
  s.branchIf (isNeg (s.x rs)) imm

/-- BcondZ with rt = 0x13: as BGEZ, no link (R718). -/
def execBcondzRt13 (rs : Reg) (imm : BitVec 16) (s : State) : Host.Outcome State Fault Refusal :=
  s.branchIf (isNonneg (s.x rs)) imm

/-- BcondZ with rt = 0x14: as BLTZ, no link (R718). -/
def execBcondzRt14 (rs : Reg) (imm : BitVec 16) (s : State) : Host.Outcome State Fault Refusal :=
  s.branchIf (isNeg (s.x rs)) imm

/-- BcondZ with rt = 0x15: as BGEZ, no link (R718). -/
def execBcondzRt15 (rs : Reg) (imm : BitVec 16) (s : State) : Host.Outcome State Fault Refusal :=
  s.branchIf (isNonneg (s.x rs)) imm

/-- BcondZ with rt = 0x16: as BLTZ, no link (R718). -/
def execBcondzRt16 (rs : Reg) (imm : BitVec 16) (s : State) : Host.Outcome State Fault Refusal :=
  s.branchIf (isNeg (s.x rs)) imm

/-- BcondZ with rt = 0x17: as BGEZ, no link (R718). -/
def execBcondzRt17 (rs : Reg) (imm : BitVec 16) (s : State) : Host.Outcome State Fault Refusal :=
  s.branchIf (isNonneg (s.x rs)) imm

/-- BcondZ with rt = 0x18: as BLTZ, no link (R718). -/
def execBcondzRt18 (rs : Reg) (imm : BitVec 16) (s : State) : Host.Outcome State Fault Refusal :=
  s.branchIf (isNeg (s.x rs)) imm

/-- BcondZ with rt = 0x19: as BGEZ, no link (R718). -/
def execBcondzRt19 (rs : Reg) (imm : BitVec 16) (s : State) : Host.Outcome State Fault Refusal :=
  s.branchIf (isNonneg (s.x rs)) imm

/-- BcondZ with rt = 0x1A: as BLTZ, no link (R718). -/
def execBcondzRt1A (rs : Reg) (imm : BitVec 16) (s : State) : Host.Outcome State Fault Refusal :=
  s.branchIf (isNeg (s.x rs)) imm

/-- BcondZ with rt = 0x1B: as BGEZ, no link (R718). -/
def execBcondzRt1B (rs : Reg) (imm : BitVec 16) (s : State) : Host.Outcome State Fault Refusal :=
  s.branchIf (isNonneg (s.x rs)) imm

/-- BcondZ with rt = 0x1C: as BLTZ, no link (R718). -/
def execBcondzRt1C (rs : Reg) (imm : BitVec 16) (s : State) : Host.Outcome State Fault Refusal :=
  s.branchIf (isNeg (s.x rs)) imm

/-- BcondZ with rt = 0x1D: as BGEZ, no link (R718). -/
def execBcondzRt1D (rs : Reg) (imm : BitVec 16) (s : State) : Host.Outcome State Fault Refusal :=
  s.branchIf (isNonneg (s.x rs)) imm

/-- BcondZ with rt = 0x1E: as BLTZ, no link (R718). -/
def execBcondzRt1E (rs : Reg) (imm : BitVec 16) (s : State) : Host.Outcome State Fault Refusal :=
  s.branchIf (isNeg (s.x rs)) imm

/-- BcondZ with rt = 0x1F: as BGEZ, no link (R718). -/
def execBcondzRt1F (rs : Reg) (imm : BitVec 16) (s : State) : Host.Outcome State Fault Refusal :=
  s.branchIf (isNonneg (s.x rs)) imm

end Sys2Proof.Machine
end

