-- ==== Sys2Proof/Machine/Branch.lean ====
section
/-! DEFINITION. Conditional branches (43_branch.md section 2). -/

namespace Sys2Proof.Machine

/-- BEQ (R710). -/
def execBeq (rs rt : Reg) (imm : BitVec 16) (s : State) : Host.Outcome State Fault Refusal :=
  s.branchIf (s.x rs == s.x rt) imm

/-- BNE (R711). -/
def execBne (rs rt : Reg) (imm : BitVec 16) (s : State) : Host.Outcome State Fault Refusal :=
  s.branchIf (s.x rs != s.x rt) imm

/-- BLEZ (R712). -/
def execBlez (rs : Reg) (imm : BitVec 16) (s : State) : Host.Outcome State Fault Refusal :=
  s.branchIf (isNonpos (s.x rs)) imm

/-- BGTZ (R713). -/
def execBgtz (rs : Reg) (imm : BitVec 16) (s : State) : Host.Outcome State Fault Refusal :=
  s.branchIf (isPos (s.x rs)) imm

/-- BLTZ (R714). -/
def execBltz (rs : Reg) (imm : BitVec 16) (s : State) : Host.Outcome State Fault Refusal :=
  s.branchIf (isNeg (s.x rs)) imm

/-- BGEZ (R715). -/
def execBgez (rs : Reg) (imm : BitVec 16) (s : State) : Host.Outcome State Fault Refusal :=
  s.branchIf (isNonneg (s.x rs)) imm

/-- BLTZAL: tests the old register, links in r31 whether taken or not (R716, R702). -/
def execBltzal (rs : Reg) (imm : BitVec 16) (s : State) : Host.Outcome State Fault Refusal :=
  s.completeBranch { write := some (31, s.link), jump := s.jumpIf (isNeg (s.x rs)) imm }

/-- BGEZAL: tests the old register, links in r31 whether taken or not (R717, R702). -/
def execBgezal (rs : Reg) (imm : BitVec 16) (s : State) : Host.Outcome State Fault Refusal :=
  s.completeBranch { write := some (31, s.link), jump := s.jumpIf (isNonneg (s.x rs)) imm }

end Sys2Proof.Machine
end

