-- ==== Sys2Proof/Machine/Cop0.lean ====
section
/-! DEFINITION. COP0 moves and commands (45_system_cop.md sections 3 and 4). -/

namespace Sys2Proof.Machine

/-- MFC0: through the load delay latch (R910). -/
def execMfc0 (rt : Reg) (cr : CopReg) (s : State) : Host.Outcome State Fault Refusal :=
  s.withCop0 ((s.cop0Read cr).2.completeLoad rt (s.cop0Read cr).1)

/-- MTC0 (R911). -/
def execMtc0 (rt : Reg) (cr : CopReg) (s : State) : Host.Outcome State Fault Refusal :=
  s.withCop0 ((s.cop0Write cr (s.x rt)).complete { })

/-- BC0F: a no-op after the usability check, and no branch (R912). -/
def execBc0f (_imm : BitVec 16) (s : State) : Host.Outcome State Fault Refusal := s.withCop0 (s.complete { })

/-- BC0T: as BC0F (R913). -/
def execBc0t (_imm : BitVec 16) (s : State) : Host.Outcome State Fault Refusal := s.withCop0 (s.complete { })

/-- CFC0: a no-op after the usability check; rt is not written (R914). -/
def execCfc0 (_rt : Reg) (_cr : CopReg) (s : State) : Host.Outcome State Fault Refusal := s.withCop0 (s.complete { })

/-- CTC0: a no-op after the usability check (R915). -/
def execCtc0 (_rt : Reg) (_cr : CopReg) (s : State) : Host.Outcome State Fault Refusal := s.withCop0 (s.complete { })

/-- RFE (R920). -/
def execRfe (s : State) : Host.Outcome State Fault Refusal := s.withCop0 (s.restoreMode.complete { })

/-- A generic COP0 command: a no-op after the usability check (R921). -/
def execCop0Generic (_funct : BitVec 6) (s : State) : Host.Outcome State Fault Refusal := s.withCop0 (s.complete { })

end Sys2Proof.Machine
end

