-- ==== Sys2Proof/Machine/Jump.lean ====
section
/-! DEFINITION. Jumps (43_branch.md section 3). -/

namespace Sys2Proof.Machine

/-- J (R720). -/
def execJ (target : BitVec 26) (s : State) : Host.Outcome State Fault Refusal :=
  s.completeBranch { jump := some (s.jumpTarget target) }

/-- JAL: links in r31 (R721). -/
def execJal (target : BitVec 26) (s : State) : Host.Outcome State Fault Refusal :=
  s.completeBranch { write := some (31, s.link), jump := some (s.jumpTarget target) }

/-- JR: the target is the whole register (R722). -/
def execJr (rs : Reg) (s : State) : Host.Outcome State Fault Refusal :=
  s.completeBranch { jump := some (s.x rs) }

/-- JALR: the target is read before the link write (R723). -/
def execJalr (rd rs : Reg) (s : State) : Host.Outcome State Fault Refusal :=
  s.completeBranch { write := some (rd, s.link), jump := some (s.x rs) }

end Sys2Proof.Machine
end

