-- ==== Sys2Proof/Machine/Load.lean ====
section
/-! DEFINITION. Loads (44_loadstore.md sections 2, 3 and 6). `memRead` answers the value zero-extended. -/

namespace Sys2Proof.Machine

/-- LB: the byte, sign-extended (R810). -/
def execLb (rt rs : Reg) (imm : BitVec 16) (s : State) : Host.Outcome State Fault Refusal :=
  s.loading .byte (s.ea rs imm) fun v t => t.completeLoad rt ((v.setWidth 8).signExtend 32)

/-- LBU: the byte, zero-extended (R811). -/
def execLbu (rt rs : Reg) (imm : BitVec 16) (s : State) : Host.Outcome State Fault Refusal :=
  s.loading .byte (s.ea rs imm) fun v t => t.completeLoad rt v

/-- LH: the halfword, sign-extended (R812). -/
def execLh (rt rs : Reg) (imm : BitVec 16) (s : State) : Host.Outcome State Fault Refusal :=
  s.loading .half (s.ea rs imm) fun v t => t.completeLoad rt ((v.setWidth 16).signExtend 32)

/-- LHU: the halfword, zero-extended (R813). -/
def execLhu (rt rs : Reg) (imm : BitVec 16) (s : State) : Host.Outcome State Fault Refusal :=
  s.loading .half (s.ea rs imm) fun v t => t.completeLoad rt v

/-- LW (R814). -/
def execLw (rt rs : Reg) (imm : BitVec 16) (s : State) : Host.Outcome State Fault Refusal :=
  s.loading .word (s.ea rs imm) fun v t => t.completeLoad rt v

/-- The merge of LWL at each `ea[1:0]`: w is the word read, cur the merge source (R831). -/
def lwlMerge (lane : Nat) (cur w : Word) : Word :=
  match lane with
  | 0 => (cur &&& 0x00FFFFFF#32) ||| (w <<< 24)
  | 1 => (cur &&& 0x0000FFFF#32) ||| (w <<< 16)
  | 2 => (cur &&& 0x000000FF#32) ||| (w <<< 8)
  | _ => w

/-- The merge of LWR at each `ea[1:0]` (R832). -/
def lwrMerge (lane : Nat) (cur w : Word) : Word :=
  match lane with
  | 0 => w
  | 1 => (cur &&& 0xFF000000#32) ||| (w >>> 8)
  | 2 => (cur &&& 0xFFFF0000#32) ||| (w >>> 16)
  | _ => (cur &&& 0xFFFFFF00#32) ||| (w >>> 24)

/-- LWL (R830, R831). -/
def execLwl (rt rs : Reg) (imm : BitVec 16) (s : State) : Host.Outcome State Fault Refusal :=
  s.loadingWord (s.ea rs imm) fun w t =>
    t.completeLoad rt (lwlMerge (byteLane (s.ea rs imm)) (s.mergeSource rt) w)

/-- LWR (R830, R832). -/
def execLwr (rt rs : Reg) (imm : BitVec 16) (s : State) : Host.Outcome State Fault Refusal :=
  s.loadingWord (s.ea rs imm) fun w t =>
    t.completeLoad rt (lwrMerge (byteLane (s.ea rs imm)) (s.mergeSource rt) w)

/-- LWC0: usability, then the address checks, then the word goes through the COP0 write accessor at once (R860). -/
def execLwc0 (cr : CopReg) (rs : Reg) (imm : BitVec 16) (s : State) : Host.Outcome State Fault Refusal :=
  s.withCop0 (s.loading .word (s.ea rs imm) fun v t => (t.cop0Write cr v).complete { })

end Sys2Proof.Machine
end

