-- ==== Sys2Proof/Machine/MulDiv.lean ====
section
/-! DEFINITION. Multiply, divide and HI/LO moves (42_muldiv.md). -/

namespace Sys2Proof.Machine

/-- The high half of a 64-bit product. -/
def hiHalf (p : BitVec 64) : Word := p.extractLsb' 32 32
/-- The low half of a 64-bit product. -/
def loHalf (p : BitVec 64) : Word := p.extractLsb' 0 32

/-- The exact signed product (R600). -/
def signedProduct (a b : Word) : BitVec 64 := BitVec.ofInt 64 (a.toInt * b.toInt)
/-- The exact unsigned product (R601). -/
def unsignedProduct (a b : Word) : BitVec 64 := BitVec.ofNat 64 (a.toNat * b.toNat)

/-- LO after DIV: the special cases of a zero divisor and of 0x8000_0000 / -1, else the quotient truncated toward zero
(R602). -/
def divLo (a b : Word) : Word :=
  if b.toInt = 0 then (if 0 ≤ a.toInt then 0xFFFFFFFF#32 else 0x00000001#32)
  else if a = 0x80000000#32 ∧ b = 0xFFFFFFFF#32 then 0x80000000#32
  else BitVec.ofInt 32 (a.toInt.tdiv b.toInt)

/-- HI after DIV: the dividend for a zero divisor, 0 for 0x8000_0000 / -1, else the remainder with the sign of the
dividend (R602). -/
def divHi (a b : Word) : Word :=
  if b.toInt = 0 then a
  else if a = 0x80000000#32 ∧ b = 0xFFFFFFFF#32 then 0x00000000#32
  else BitVec.ofInt 32 (a.toInt.tmod b.toInt)

/-- LO after DIVU (R603). -/
def divuLo (a b : Word) : Word := if b = 0#32 then 0xFFFFFFFF#32 else BitVec.ofNat 32 (a.toNat / b.toNat)
/-- HI after DIVU (R603). -/
def divuHi (a b : Word) : Word := if b = 0#32 then a else BitVec.ofNat 32 (a.toNat % b.toNat)

/-- MULT (R600). -/
def execMult (rs rt : Reg) (s : State) : Host.Outcome State Fault Refusal :=
  s.completeHiLo (hiHalf (signedProduct (s.x rs) (s.x rt))) (loHalf (signedProduct (s.x rs) (s.x rt)))

/-- MULTU (R601). -/
def execMultu (rs rt : Reg) (s : State) : Host.Outcome State Fault Refusal :=
  s.completeHiLo (hiHalf (unsignedProduct (s.x rs) (s.x rt))) (loHalf (unsignedProduct (s.x rs) (s.x rt)))

/-- DIV (R602). -/
def execDiv (rs rt : Reg) (s : State) : Host.Outcome State Fault Refusal :=
  s.completeHiLo (divHi (s.x rs) (s.x rt)) (divLo (s.x rs) (s.x rt))

/-- DIVU (R603). -/
def execDivu (rs rt : Reg) (s : State) : Host.Outcome State Fault Refusal :=
  s.completeHiLo (divuHi (s.x rs) (s.x rt)) (divuLo (s.x rs) (s.x rt))

/-- MFHI: a direct GPR write; the HI/LO age starts again (R605). -/
def execMfhi (rd : Reg) (s : State) : Host.Outcome State Fault Refusal :=
  s.complete { write := some (rd, s.hi), readsHiLo := true }

/-- MFLO (R606). -/
def execMflo (rd : Reg) (s : State) : Host.Outcome State Fault Refusal :=
  s.complete { write := some (rd, s.lo), readsHiLo := true }

/-- MTHI: LO unchanged (R607). -/
def execMthi (rs : Reg) (s : State) : Host.Outcome State Fault Refusal := s.completeHiLo (s.x rs) s.lo

/-- MTLO: HI unchanged (R608). -/
def execMtlo (rs : Reg) (s : State) : Host.Outcome State Fault Refusal := s.completeHiLo s.hi (s.x rs)

end Sys2Proof.Machine
end

