-- ==== Sys2Proof/Machine/OtherCop.lean ====
section
/-! DEFINITION. COP1 and COP3 do not exist and are always unusable (45_system_cop.md R930); COP2 is the geometry unit
outside this block (R931). -/

namespace Sys2Proof.Machine

/-- COP1: CpU(1) in every mode, whatever its other fields (R930). -/
def execCop1 (s : State) : Host.Outcome State Fault Refusal := s.raise (.cpU 1#2)

/-- COP3: CpU(3) in every mode, whatever its other fields (R930). -/
def execCop3 (s : State) : Host.Outcome State Fault Refusal := s.raise (.cpU 3#2)

/-- LWC1: CpU(1) in every mode, whatever its other fields (R930). -/
def execLwc1 (s : State) : Host.Outcome State Fault Refusal := s.raise (.cpU 1#2)

/-- LWC3: CpU(3) in every mode, whatever its other fields (R930). -/
def execLwc3 (s : State) : Host.Outcome State Fault Refusal := s.raise (.cpU 3#2)

/-- SWC1: CpU(1) in every mode, whatever its other fields (R930). -/
def execSwc1 (s : State) : Host.Outcome State Fault Refusal := s.raise (.cpU 1#2)

/-- SWC3: CpU(3) in every mode, whatever its other fields (R930). -/
def execSwc3 (s : State) : Host.Outcome State Fault Refusal := s.raise (.cpU 3#2)

/-- COP2: CpU(2) with SR.CU2 = 0, refused with CU2 = 1 (R931). -/
def execCop2 (s : State) : Host.Outcome State Fault Refusal := s.cop2

/-- LWC2: CpU(2) with SR.CU2 = 0, refused with CU2 = 1 (R931). -/
def execLwc2 (s : State) : Host.Outcome State Fault Refusal := s.cop2

/-- SWC2: CpU(2) with SR.CU2 = 0, refused with CU2 = 1 (R931). -/
def execSwc2 (s : State) : Host.Outcome State Fault Refusal := s.cop2

end Sys2Proof.Machine
end

