-- ==== Sys2Proof/Machine/Reserved.lean ====
section
/-! DEFINITION. Reserved encodings raise the Reserved Instruction exception (30_encoding.md R340, 45_system_cop.md
R940). -/

namespace Sys2Proof.Machine

/-- RESERVED_OP14 raises RI (R340, R940). -/
def execReservedOp14 (s : State) : Host.Outcome State Fault Refusal := s.raise .ri

/-- RESERVED_OP15 raises RI (R340, R940). -/
def execReservedOp15 (s : State) : Host.Outcome State Fault Refusal := s.raise .ri

/-- RESERVED_OP16 raises RI (R340, R940). -/
def execReservedOp16 (s : State) : Host.Outcome State Fault Refusal := s.raise .ri

/-- RESERVED_OP17 raises RI (R340, R940). -/
def execReservedOp17 (s : State) : Host.Outcome State Fault Refusal := s.raise .ri

/-- RESERVED_OP18 raises RI (R340, R940). -/
def execReservedOp18 (s : State) : Host.Outcome State Fault Refusal := s.raise .ri

/-- RESERVED_OP19 raises RI (R340, R940). -/
def execReservedOp19 (s : State) : Host.Outcome State Fault Refusal := s.raise .ri

/-- RESERVED_OP1A raises RI (R340, R940). -/
def execReservedOp1A (s : State) : Host.Outcome State Fault Refusal := s.raise .ri

/-- RESERVED_OP1B raises RI (R340, R940). -/
def execReservedOp1B (s : State) : Host.Outcome State Fault Refusal := s.raise .ri

/-- RESERVED_OP1C raises RI (R340, R940). -/
def execReservedOp1C (s : State) : Host.Outcome State Fault Refusal := s.raise .ri

/-- RESERVED_OP1D raises RI (R340, R940). -/
def execReservedOp1D (s : State) : Host.Outcome State Fault Refusal := s.raise .ri

/-- RESERVED_OP1E raises RI (R340, R940). -/
def execReservedOp1E (s : State) : Host.Outcome State Fault Refusal := s.raise .ri

/-- RESERVED_OP1F raises RI (R340, R940). -/
def execReservedOp1F (s : State) : Host.Outcome State Fault Refusal := s.raise .ri

/-- RESERVED_OP27 raises RI (R340, R940). -/
def execReservedOp27 (s : State) : Host.Outcome State Fault Refusal := s.raise .ri

/-- RESERVED_OP2C raises RI (R340, R940). -/
def execReservedOp2C (s : State) : Host.Outcome State Fault Refusal := s.raise .ri

/-- RESERVED_OP2D raises RI (R340, R940). -/
def execReservedOp2D (s : State) : Host.Outcome State Fault Refusal := s.raise .ri

/-- RESERVED_OP2F raises RI (R340, R940). -/
def execReservedOp2F (s : State) : Host.Outcome State Fault Refusal := s.raise .ri

/-- RESERVED_OP34 raises RI (R340, R940). -/
def execReservedOp34 (s : State) : Host.Outcome State Fault Refusal := s.raise .ri

/-- RESERVED_OP35 raises RI (R340, R940). -/
def execReservedOp35 (s : State) : Host.Outcome State Fault Refusal := s.raise .ri

/-- RESERVED_OP36 raises RI (R340, R940). -/
def execReservedOp36 (s : State) : Host.Outcome State Fault Refusal := s.raise .ri

/-- RESERVED_OP37 raises RI (R340, R940). -/
def execReservedOp37 (s : State) : Host.Outcome State Fault Refusal := s.raise .ri

/-- RESERVED_OP3C raises RI (R340, R940). -/
def execReservedOp3C (s : State) : Host.Outcome State Fault Refusal := s.raise .ri

/-- RESERVED_OP3D raises RI (R340, R940). -/
def execReservedOp3D (s : State) : Host.Outcome State Fault Refusal := s.raise .ri

/-- RESERVED_OP3E raises RI (R340, R940). -/
def execReservedOp3E (s : State) : Host.Outcome State Fault Refusal := s.raise .ri

/-- RESERVED_OP3F raises RI (R340, R940). -/
def execReservedOp3F (s : State) : Host.Outcome State Fault Refusal := s.raise .ri

/-- RESERVED_FUNCT01 raises RI (R340, R940). -/
def execReservedFunct01 (s : State) : Host.Outcome State Fault Refusal := s.raise .ri

/-- RESERVED_FUNCT05 raises RI (R340, R940). -/
def execReservedFunct05 (s : State) : Host.Outcome State Fault Refusal := s.raise .ri

/-- RESERVED_FUNCT0A raises RI (R340, R940). -/
def execReservedFunct0A (s : State) : Host.Outcome State Fault Refusal := s.raise .ri

/-- RESERVED_FUNCT0B raises RI (R340, R940). -/
def execReservedFunct0B (s : State) : Host.Outcome State Fault Refusal := s.raise .ri

/-- RESERVED_FUNCT0E raises RI (R340, R940). -/
def execReservedFunct0E (s : State) : Host.Outcome State Fault Refusal := s.raise .ri

/-- RESERVED_FUNCT0F raises RI (R340, R940). -/
def execReservedFunct0F (s : State) : Host.Outcome State Fault Refusal := s.raise .ri

/-- RESERVED_FUNCT14 raises RI (R340, R940). -/
def execReservedFunct14 (s : State) : Host.Outcome State Fault Refusal := s.raise .ri

/-- RESERVED_FUNCT15 raises RI (R340, R940). -/
def execReservedFunct15 (s : State) : Host.Outcome State Fault Refusal := s.raise .ri

/-- RESERVED_FUNCT16 raises RI (R340, R940). -/
def execReservedFunct16 (s : State) : Host.Outcome State Fault Refusal := s.raise .ri

/-- RESERVED_FUNCT17 raises RI (R340, R940). -/
def execReservedFunct17 (s : State) : Host.Outcome State Fault Refusal := s.raise .ri

/-- RESERVED_FUNCT1C raises RI (R340, R940). -/
def execReservedFunct1C (s : State) : Host.Outcome State Fault Refusal := s.raise .ri

/-- RESERVED_FUNCT1D raises RI (R340, R940). -/
def execReservedFunct1D (s : State) : Host.Outcome State Fault Refusal := s.raise .ri

/-- RESERVED_FUNCT1E raises RI (R340, R940). -/
def execReservedFunct1E (s : State) : Host.Outcome State Fault Refusal := s.raise .ri

/-- RESERVED_FUNCT1F raises RI (R340, R940). -/
def execReservedFunct1F (s : State) : Host.Outcome State Fault Refusal := s.raise .ri

/-- RESERVED_FUNCT28 raises RI (R340, R940). -/
def execReservedFunct28 (s : State) : Host.Outcome State Fault Refusal := s.raise .ri

/-- RESERVED_FUNCT29 raises RI (R340, R940). -/
def execReservedFunct29 (s : State) : Host.Outcome State Fault Refusal := s.raise .ri

/-- RESERVED_FUNCT2C raises RI (R340, R940). -/
def execReservedFunct2C (s : State) : Host.Outcome State Fault Refusal := s.raise .ri

/-- RESERVED_FUNCT2D raises RI (R340, R940). -/
def execReservedFunct2D (s : State) : Host.Outcome State Fault Refusal := s.raise .ri

/-- RESERVED_FUNCT2E raises RI (R340, R940). -/
def execReservedFunct2E (s : State) : Host.Outcome State Fault Refusal := s.raise .ri

/-- RESERVED_FUNCT2F raises RI (R340, R940). -/
def execReservedFunct2F (s : State) : Host.Outcome State Fault Refusal := s.raise .ri

/-- RESERVED_FUNCT30 raises RI (R340, R940). -/
def execReservedFunct30 (s : State) : Host.Outcome State Fault Refusal := s.raise .ri

/-- RESERVED_FUNCT31 raises RI (R340, R940). -/
def execReservedFunct31 (s : State) : Host.Outcome State Fault Refusal := s.raise .ri

/-- RESERVED_FUNCT32 raises RI (R340, R940). -/
def execReservedFunct32 (s : State) : Host.Outcome State Fault Refusal := s.raise .ri

/-- RESERVED_FUNCT33 raises RI (R340, R940). -/
def execReservedFunct33 (s : State) : Host.Outcome State Fault Refusal := s.raise .ri

/-- RESERVED_FUNCT34 raises RI (R340, R940). -/
def execReservedFunct34 (s : State) : Host.Outcome State Fault Refusal := s.raise .ri

/-- RESERVED_FUNCT35 raises RI (R340, R940). -/
def execReservedFunct35 (s : State) : Host.Outcome State Fault Refusal := s.raise .ri

/-- RESERVED_FUNCT36 raises RI (R340, R940). -/
def execReservedFunct36 (s : State) : Host.Outcome State Fault Refusal := s.raise .ri

/-- RESERVED_FUNCT37 raises RI (R340, R940). -/
def execReservedFunct37 (s : State) : Host.Outcome State Fault Refusal := s.raise .ri

/-- RESERVED_FUNCT38 raises RI (R340, R940). -/
def execReservedFunct38 (s : State) : Host.Outcome State Fault Refusal := s.raise .ri

/-- RESERVED_FUNCT39 raises RI (R340, R940). -/
def execReservedFunct39 (s : State) : Host.Outcome State Fault Refusal := s.raise .ri

/-- RESERVED_FUNCT3A raises RI (R340, R940). -/
def execReservedFunct3A (s : State) : Host.Outcome State Fault Refusal := s.raise .ri

/-- RESERVED_FUNCT3B raises RI (R340, R940). -/
def execReservedFunct3B (s : State) : Host.Outcome State Fault Refusal := s.raise .ri

/-- RESERVED_FUNCT3C raises RI (R340, R940). -/
def execReservedFunct3C (s : State) : Host.Outcome State Fault Refusal := s.raise .ri

/-- RESERVED_FUNCT3D raises RI (R340, R940). -/
def execReservedFunct3D (s : State) : Host.Outcome State Fault Refusal := s.raise .ri

/-- RESERVED_FUNCT3E raises RI (R340, R940). -/
def execReservedFunct3E (s : State) : Host.Outcome State Fault Refusal := s.raise .ri

/-- RESERVED_FUNCT3F raises RI (R340, R940). -/
def execReservedFunct3F (s : State) : Host.Outcome State Fault Refusal := s.raise .ri

end Sys2Proof.Machine
end

