-- ==== Sys2Proof/Machine/Shift.lean ====
section
/-! DEFINITION. Shifts (41_alu.md section 1). -/

namespace Sys2Proof.Machine

/-- SLL: `x[d] <- x[t] << sa` (R500). -/
def execSll (rd rt : Reg) (sa : BitVec 5) (s : State) : Host.Outcome State Fault Refusal :=
  s.completeWrite rd (s.x rt <<< sa.toNat)

/-- SRL: `x[d] <- x[t] >>u sa` (R501). -/
def execSrl (rd rt : Reg) (sa : BitVec 5) (s : State) : Host.Outcome State Fault Refusal :=
  s.completeWrite rd (s.x rt >>> sa.toNat)

/-- SRA: `x[d] <- x[t] >>s sa` (R502). -/
def execSra (rd rt : Reg) (sa : BitVec 5) (s : State) : Host.Outcome State Fault Refusal :=
  s.completeWrite rd ((s.x rt).sshiftRight sa.toNat)

/-- SLLV: `x[d] <- x[t] << x[s][4:0]` (R503). -/
def execSllv (rd rt rs : Reg) (s : State) : Host.Outcome State Fault Refusal :=
  s.completeWrite rd (s.x rt <<< shiftAmount (s.x rs))

/-- SRLV: `x[d] <- x[t] >>u x[s][4:0]` (R504). -/
def execSrlv (rd rt rs : Reg) (s : State) : Host.Outcome State Fault Refusal :=
  s.completeWrite rd (s.x rt >>> shiftAmount (s.x rs))

/-- SRAV: `x[d] <- x[t] >>s x[s][4:0]` (R505). -/
def execSrav (rd rt rs : Reg) (s : State) : Host.Outcome State Fault Refusal :=
  s.completeWrite rd ((s.x rt).sshiftRight (shiftAmount (s.x rs)))

end Sys2Proof.Machine
end

