-- ==== Sys2Proof/Machine/Store.lean ====
section
/-! DEFINITION. Stores (44_loadstore.md sections 4, 5 and 6). -/

namespace Sys2Proof.Machine

/-- SB (R840). -/
def execSb (rt rs : Reg) (imm : BitVec 16) (s : State) : Host.Outcome State Fault Refusal :=
  s.storing .byte (s.ea rs imm) (s.x rt)

/-- SH (R841). -/
def execSh (rt rs : Reg) (imm : BitVec 16) (s : State) : Host.Outcome State Fault Refusal :=
  s.storing .half (s.ea rs imm) (s.x rt)

/-- SW (R842). -/
def execSw (rt rs : Reg) (imm : BitVec 16) (s : State) : Host.Outcome State Fault Refusal :=
  s.storing .word (s.ea rs imm) (s.x rt)

/-- The shifted register of SWL at each `ea[1:0]` (R850). -/
def swlValue (lane : Nat) (r : Word) : Word :=
  match lane with
  | 0 => r >>> 24
  | 1 => r >>> 16
  | 2 => r >>> 8
  | _ => r

/-- The byte enables of SWL at each `ea[1:0]` (R850). -/
def swlMask (lane : Nat) : BitVec 4 :=
  match lane with
  | 0 => 0b0001#4
  | 1 => 0b0011#4
  | 2 => 0b0111#4
  | _ => 0b1111#4

/-- The shifted register of SWR at each `ea[1:0]` (R851). -/
def swrValue (lane : Nat) (r : Word) : Word :=
  match lane with
  | 0 => r
  | 1 => r <<< 8
  | 2 => r <<< 16
  | _ => r <<< 24

/-- The byte enables of SWR at each `ea[1:0]` (R851). -/
def swrMask (lane : Nat) : BitVec 4 :=
  match lane with
  | 0 => 0b1111#4
  | 1 => 0b1110#4
  | 2 => 0b1100#4
  | _ => 0b1000#4

/-- SWL (R850). -/
def execSwl (rt rs : Reg) (imm : BitVec 16) (s : State) : Host.Outcome State Fault Refusal :=
  s.storingMasked (s.ea rs imm) (swlValue (byteLane (s.ea rs imm)) (s.x rt)) (swlMask (byteLane (s.ea rs imm)))

/-- SWR (R851). -/
def execSwr (rt rs : Reg) (imm : BitVec 16) (s : State) : Host.Outcome State Fault Refusal :=
  s.storingMasked (s.ea rs imm) (swrValue (byteLane (s.ea rs imm)) (s.x rt)) (swrMask (byteLane (s.ea rs imm)))

/-- SWC0: usability, then the address checks, then the COP0 register is read and stored (R861). -/
def execSwc0 (cr : CopReg) (rs : Reg) (imm : BitVec 16) (s : State) : Host.Outcome State Fault Refusal :=
  s.withCop0
    (if !isAligned .word (s.ea rs imm) || s.userBlocked (s.ea rs imm) then s.raise (.adES (s.ea rs imm))
     else ((s.cop0Read cr).2.memWrite (s.ea rs imm) .word (s.cop0Read cr).1).complete { })

end Sys2Proof.Machine
end

