-- ==== Sys2Proof/Machine/System.lean ====
section
/-! DEFINITION. System calls and breakpoints (45_system_cop.md section 2). -/

namespace Sys2Proof.Machine

/-- SYSCALL: the code field is ignored (R902). -/
def execSyscall (_code : BitVec 20) (s : State) : Host.Outcome State Fault Refusal := s.raise .sys

/-- BREAK (R903). -/
def execBrk (_code : BitVec 20) (s : State) : Host.Outcome State Fault Refusal := s.raise .bp

end Sys2Proof.Machine
end

