-- ==== Sys2Proof/Machine/UnnamedCop0.lean ====
section
/-! DEFINITION. The COP0 encodings the source does not name (30_encoding.md R341): the usability check comes first
(45_system_cop.md R901, 60_exceptions.md R1010 item 4), then the step is refused. -/

namespace Sys2Proof.Machine

/-- COP0_RS01: refused once COP0 is usable, CpU(0) before (R341, R901). -/
def execCop0Rs01 (s : State) : Host.Outcome State Fault Refusal := s.unnamedCop0

/-- COP0_RS03: refused once COP0 is usable, CpU(0) before (R341, R901). -/
def execCop0Rs03 (s : State) : Host.Outcome State Fault Refusal := s.unnamedCop0

/-- COP0_RS05: refused once COP0 is usable, CpU(0) before (R341, R901). -/
def execCop0Rs05 (s : State) : Host.Outcome State Fault Refusal := s.unnamedCop0

/-- COP0_RS07: refused once COP0 is usable, CpU(0) before (R341, R901). -/
def execCop0Rs07 (s : State) : Host.Outcome State Fault Refusal := s.unnamedCop0

/-- COP0_RS09: refused once COP0 is usable, CpU(0) before (R341, R901). -/
def execCop0Rs09 (s : State) : Host.Outcome State Fault Refusal := s.unnamedCop0

/-- COP0_RS0A: refused once COP0 is usable, CpU(0) before (R341, R901). -/
def execCop0Rs0A (s : State) : Host.Outcome State Fault Refusal := s.unnamedCop0

/-- COP0_RS0B: refused once COP0 is usable, CpU(0) before (R341, R901). -/
def execCop0Rs0B (s : State) : Host.Outcome State Fault Refusal := s.unnamedCop0

/-- COP0_RS0C: refused once COP0 is usable, CpU(0) before (R341, R901). -/
def execCop0Rs0C (s : State) : Host.Outcome State Fault Refusal := s.unnamedCop0

/-- COP0_RS0D: refused once COP0 is usable, CpU(0) before (R341, R901). -/
def execCop0Rs0D (s : State) : Host.Outcome State Fault Refusal := s.unnamedCop0

/-- COP0_RS0E: refused once COP0 is usable, CpU(0) before (R341, R901). -/
def execCop0Rs0E (s : State) : Host.Outcome State Fault Refusal := s.unnamedCop0

/-- COP0_RS0F: refused once COP0 is usable, CpU(0) before (R341, R901). -/
def execCop0Rs0F (s : State) : Host.Outcome State Fault Refusal := s.unnamedCop0

/-- COP0_RS08_OTHER: refused once COP0 is usable, CpU(0) before (R341, R901). -/
def execCop0Rs08Other (_cond : BitVec 5) (s : State) : Host.Outcome State Fault Refusal := s.unnamedCop0

end Sys2Proof.Machine
end

