-- ==== Sys2Proof/Syntax.lean ====
section
/-! DEFINITION. The instruction set: one constructor per row of spec/opcode_table.json
(30_encoding.md R300, R320). Operands stand in assembler order (R360); a field an instruction does not
use is no operand (R330). -/

namespace Sys2Proof

/-- The instructions of the CW33300 core. Register operands are GPR indices (`Reg`), `cr` a COP0 index,
`sa` a shift amount, `imm` the raw 16-bit field, `target` the raw 26-bit field, `code` the 20-bit code
field the hardware ignores. -/
inductive Instr where
  -- Shifts (41_alu.md section 1).
  | sll (rd rt : Reg) (sa : BitVec 5)
  | srl (rd rt : Reg) (sa : BitVec 5)
  | sra (rd rt : Reg) (sa : BitVec 5)
  | sllv (rd rt rs : Reg)
  | srlv (rd rt rs : Reg)
  | srav (rd rt rs : Reg)
  -- Register ALU (41_alu.md section 2).
  | add (rd rs rt : Reg)
  | addu (rd rs rt : Reg)
  | sub (rd rs rt : Reg)
  | subu (rd rs rt : Reg)
  | and (rd rs rt : Reg)
  | or (rd rs rt : Reg)
  | xor (rd rs rt : Reg)
  | nor (rd rs rt : Reg)
  | slt (rd rs rt : Reg)
  | sltu (rd rs rt : Reg)
  -- Immediate ALU (41_alu.md section 3).
  | addi (rt rs : Reg) (imm : BitVec 16)
  | addiu (rt rs : Reg) (imm : BitVec 16)
  | slti (rt rs : Reg) (imm : BitVec 16)
  | sltiu (rt rs : Reg) (imm : BitVec 16)
  | andi (rt rs : Reg) (imm : BitVec 16)
  | ori (rt rs : Reg) (imm : BitVec 16)
  | xori (rt rs : Reg) (imm : BitVec 16)
  | lui (rt : Reg) (imm : BitVec 16)
  -- Multiply, divide and HI/LO moves (42_muldiv.md).
  | mult (rs rt : Reg)
  | multu (rs rt : Reg)
  | div (rs rt : Reg)
  | divu (rs rt : Reg)
  | mfhi (rd : Reg)
  | mflo (rd : Reg)
  | mthi (rs : Reg)
  | mtlo (rs : Reg)
  -- Conditional branches (43_branch.md section 2).
  | beq (rs rt : Reg) (imm : BitVec 16)
  | bne (rs rt : Reg) (imm : BitVec 16)
  | blez (rs : Reg) (imm : BitVec 16)
  | bgtz (rs : Reg) (imm : BitVec 16)
  | bltz (rs : Reg) (imm : BitVec 16)
  | bgez (rs : Reg) (imm : BitVec 16)
  | bltzal (rs : Reg) (imm : BitVec 16)
  | bgezal (rs : Reg) (imm : BitVec 16)
  -- Jumps (43_branch.md section 3).
  | j (target : BitVec 26)
  | jal (target : BitVec 26)
  | jr (rs : Reg)
  | jalr (rd rs : Reg)
  -- Loads (44_loadstore.md sections 2 and 3).
  | lb (rt rs : Reg) (imm : BitVec 16)
  | lbu (rt rs : Reg) (imm : BitVec 16)
  | lh (rt rs : Reg) (imm : BitVec 16)
  | lhu (rt rs : Reg) (imm : BitVec 16)
  | lw (rt rs : Reg) (imm : BitVec 16)
  | lwl (rt rs : Reg) (imm : BitVec 16)
  | lwr (rt rs : Reg) (imm : BitVec 16)
  -- Stores (44_loadstore.md sections 4 and 5).
  | sb (rt rs : Reg) (imm : BitVec 16)
  | sh (rt rs : Reg) (imm : BitVec 16)
  | sw (rt rs : Reg) (imm : BitVec 16)
  | swl (rt rs : Reg) (imm : BitVec 16)
  | swr (rt rs : Reg) (imm : BitVec 16)
  -- COP0 memory instructions (44_loadstore.md section 6); `cr` is a COP0 index (R311).
  | lwc0 (cr : CopReg) (rs : Reg) (imm : BitVec 16)
  | swc0 (cr : CopReg) (rs : Reg) (imm : BitVec 16)
  -- System calls and breakpoints (45_system_cop.md section 2).
  | syscall (code : BitVec 20)
  | brk (code : BitVec 20)
  -- COP0 moves and commands (45_system_cop.md sections 3 and 4).
  | mfc0 (rt : Reg) (cr : CopReg)
  | mtc0 (rt : Reg) (cr : CopReg)
  | bc0f (imm : BitVec 16)
  | bc0t (imm : BitVec 16)
  | cfc0 (rt : Reg) (cr : CopReg)
  | ctc0 (rt : Reg) (cr : CopReg)
  | rfe
  -- The BcondZ words with any other rt (43_branch.md R718).
  | bcondzRt02 (rs : Reg) (imm : BitVec 16)
  | bcondzRt03 (rs : Reg) (imm : BitVec 16)
  | bcondzRt04 (rs : Reg) (imm : BitVec 16)
  | bcondzRt05 (rs : Reg) (imm : BitVec 16)
  | bcondzRt06 (rs : Reg) (imm : BitVec 16)
  | bcondzRt07 (rs : Reg) (imm : BitVec 16)
  | bcondzRt08 (rs : Reg) (imm : BitVec 16)
  | bcondzRt09 (rs : Reg) (imm : BitVec 16)
  | bcondzRt0A (rs : Reg) (imm : BitVec 16)
  | bcondzRt0B (rs : Reg) (imm : BitVec 16)
  | bcondzRt0C (rs : Reg) (imm : BitVec 16)
  | bcondzRt0D (rs : Reg) (imm : BitVec 16)
  | bcondzRt0E (rs : Reg) (imm : BitVec 16)
  | bcondzRt0F (rs : Reg) (imm : BitVec 16)
  | bcondzRt12 (rs : Reg) (imm : BitVec 16)
  | bcondzRt13 (rs : Reg) (imm : BitVec 16)
  | bcondzRt14 (rs : Reg) (imm : BitVec 16)
  | bcondzRt15 (rs : Reg) (imm : BitVec 16)
  | bcondzRt16 (rs : Reg) (imm : BitVec 16)
  | bcondzRt17 (rs : Reg) (imm : BitVec 16)
  | bcondzRt18 (rs : Reg) (imm : BitVec 16)
  | bcondzRt19 (rs : Reg) (imm : BitVec 16)
  | bcondzRt1A (rs : Reg) (imm : BitVec 16)
  | bcondzRt1B (rs : Reg) (imm : BitVec 16)
  | bcondzRt1C (rs : Reg) (imm : BitVec 16)
  | bcondzRt1D (rs : Reg) (imm : BitVec 16)
  | bcondzRt1E (rs : Reg) (imm : BitVec 16)
  | bcondzRt1F (rs : Reg) (imm : BitVec 16)
  -- Every other COP0 command (45_system_cop.md R921).
  | cop0Generic (funct : BitVec 6)
  -- The COP0 encodings the source does not name (30_encoding.md R341).
  | cop0Rs01
  | cop0Rs03
  | cop0Rs05
  | cop0Rs07
  | cop0Rs09
  | cop0Rs0A
  | cop0Rs0B
  | cop0Rs0C
  | cop0Rs0D
  | cop0Rs0E
  | cop0Rs0F
  | cop0Rs08Other (cond : BitVec 5)
  -- COP1 and COP3 (45_system_cop.md R930).
  | cop1
  | cop3
  | lwc1
  | lwc3
  | swc1
  | swc3
  -- COP2 (45_system_cop.md R931).
  | cop2
  | lwc2
  | swc2
  -- Reserved primary opcodes (30_encoding.md R340).
  | reservedOp14
  | reservedOp15
  | reservedOp16
  | reservedOp17
  | reservedOp18
  | reservedOp19
  | reservedOp1A
  | reservedOp1B
  | reservedOp1C
  | reservedOp1D
  | reservedOp1E
  | reservedOp1F
  | reservedOp27
  | reservedOp2C
  | reservedOp2D
  | reservedOp2F
  | reservedOp34
  | reservedOp35
  | reservedOp36
  | reservedOp37
  | reservedOp3C
  | reservedOp3D
  | reservedOp3E
  | reservedOp3F
  -- Reserved SPECIAL functions (30_encoding.md R340).
  | reservedFunct01
  | reservedFunct05
  | reservedFunct0A
  | reservedFunct0B
  | reservedFunct0E
  | reservedFunct0F
  | reservedFunct14
  | reservedFunct15
  | reservedFunct16
  | reservedFunct17
  | reservedFunct1C
  | reservedFunct1D
  | reservedFunct1E
  | reservedFunct1F
  | reservedFunct28
  | reservedFunct29
  | reservedFunct2C
  | reservedFunct2D
  | reservedFunct2E
  | reservedFunct2F
  | reservedFunct30
  | reservedFunct31
  | reservedFunct32
  | reservedFunct33
  | reservedFunct34
  | reservedFunct35
  | reservedFunct36
  | reservedFunct37
  | reservedFunct38
  | reservedFunct39
  | reservedFunct3A
  | reservedFunct3B
  | reservedFunct3C
  | reservedFunct3D
  | reservedFunct3E
  | reservedFunct3F
  deriving DecidableEq, Repr

end Sys2Proof
end

