-- ==== Sys2Proof/Machine/Dispatch.lean ====
section
/-! DEFINITION. One arm per instruction, each one call of its meaning. -/

namespace Sys2Proof.Machine

/-- Execute an instruction. `s` is the state after the fetch (40_cycle.md R404): `currentPc` is the instruction's
address and `pc` the next one, while `ld`, `bd` and `slot` still hold what they held when the step began
(the spec's `prev`, `bpb` and `inSlot`, R401). -/
def exec (i : Instr) (s : State) : Host.Outcome State Fault Refusal :=
  match i with
  -- Shifts (41_alu.md section 1).
  | .sll rd rt sa => Sys2Proof.Machine.execSll rd rt sa s
  | .srl rd rt sa => Sys2Proof.Machine.execSrl rd rt sa s
  | .sra rd rt sa => Sys2Proof.Machine.execSra rd rt sa s
  | .sllv rd rt rs => Sys2Proof.Machine.execSllv rd rt rs s
  | .srlv rd rt rs => Sys2Proof.Machine.execSrlv rd rt rs s
  | .srav rd rt rs => Sys2Proof.Machine.execSrav rd rt rs s
  -- Register ALU (41_alu.md section 2).
  | .add rd rs rt => Sys2Proof.Machine.execAdd rd rs rt s
  | .addu rd rs rt => Sys2Proof.Machine.execAddu rd rs rt s
  | .sub rd rs rt => Sys2Proof.Machine.execSub rd rs rt s
  | .subu rd rs rt => Sys2Proof.Machine.execSubu rd rs rt s
  | .and rd rs rt => Sys2Proof.Machine.execAnd rd rs rt s
  | .or rd rs rt => Sys2Proof.Machine.execOr rd rs rt s
  | .xor rd rs rt => Sys2Proof.Machine.execXor rd rs rt s
  | .nor rd rs rt => Sys2Proof.Machine.execNor rd rs rt s
  | .slt rd rs rt => Sys2Proof.Machine.execSlt rd rs rt s
  | .sltu rd rs rt => Sys2Proof.Machine.execSltu rd rs rt s
  -- Immediate ALU (41_alu.md section 3).
  | .addi rt rs imm => Sys2Proof.Machine.execAddi rt rs imm s
  | .addiu rt rs imm => Sys2Proof.Machine.execAddiu rt rs imm s
  | .slti rt rs imm => Sys2Proof.Machine.execSlti rt rs imm s
  | .sltiu rt rs imm => Sys2Proof.Machine.execSltiu rt rs imm s
  | .andi rt rs imm => Sys2Proof.Machine.execAndi rt rs imm s
  | .ori rt rs imm => Sys2Proof.Machine.execOri rt rs imm s
  | .xori rt rs imm => Sys2Proof.Machine.execXori rt rs imm s
  | .lui rt imm => Sys2Proof.Machine.execLui rt imm s
  -- Multiply, divide and HI/LO moves (42_muldiv.md).
  | .mult rs rt => Sys2Proof.Machine.execMult rs rt s
  | .multu rs rt => Sys2Proof.Machine.execMultu rs rt s
  | .div rs rt => Sys2Proof.Machine.execDiv rs rt s
  | .divu rs rt => Sys2Proof.Machine.execDivu rs rt s
  | .mfhi rd => Sys2Proof.Machine.execMfhi rd s
  | .mflo rd => Sys2Proof.Machine.execMflo rd s
  | .mthi rs => Sys2Proof.Machine.execMthi rs s
  | .mtlo rs => Sys2Proof.Machine.execMtlo rs s
  -- Conditional branches (43_branch.md section 2).
  | .beq rs rt imm => Sys2Proof.Machine.execBeq rs rt imm s
  | .bne rs rt imm => Sys2Proof.Machine.execBne rs rt imm s
  | .blez rs imm => Sys2Proof.Machine.execBlez rs imm s
  | .bgtz rs imm => Sys2Proof.Machine.execBgtz rs imm s
  | .bltz rs imm => Sys2Proof.Machine.execBltz rs imm s
  | .bgez rs imm => Sys2Proof.Machine.execBgez rs imm s
  | .bltzal rs imm => Sys2Proof.Machine.execBltzal rs imm s
  | .bgezal rs imm => Sys2Proof.Machine.execBgezal rs imm s
  -- Jumps (43_branch.md section 3).
  | .j target => Sys2Proof.Machine.execJ target s
  | .jal target => Sys2Proof.Machine.execJal target s
  | .jr rs => Sys2Proof.Machine.execJr rs s
  | .jalr rd rs => Sys2Proof.Machine.execJalr rd rs s
  -- Loads (44_loadstore.md sections 2 and 3).
  | .lb rt rs imm => Sys2Proof.Machine.execLb rt rs imm s
  | .lbu rt rs imm => Sys2Proof.Machine.execLbu rt rs imm s
  | .lh rt rs imm => Sys2Proof.Machine.execLh rt rs imm s
  | .lhu rt rs imm => Sys2Proof.Machine.execLhu rt rs imm s
  | .lw rt rs imm => Sys2Proof.Machine.execLw rt rs imm s
  | .lwl rt rs imm => Sys2Proof.Machine.execLwl rt rs imm s
  | .lwr rt rs imm => Sys2Proof.Machine.execLwr rt rs imm s
  -- Stores (44_loadstore.md sections 4 and 5).
  | .sb rt rs imm => Sys2Proof.Machine.execSb rt rs imm s
  | .sh rt rs imm => Sys2Proof.Machine.execSh rt rs imm s
  | .sw rt rs imm => Sys2Proof.Machine.execSw rt rs imm s
  | .swl rt rs imm => Sys2Proof.Machine.execSwl rt rs imm s
  | .swr rt rs imm => Sys2Proof.Machine.execSwr rt rs imm s
  -- COP0 memory instructions (44_loadstore.md section 6); `cr` is a COP0 index (R311).
  | .lwc0 cr rs imm => Sys2Proof.Machine.execLwc0 cr rs imm s
  | .swc0 cr rs imm => Sys2Proof.Machine.execSwc0 cr rs imm s
  -- System calls and breakpoints (45_system_cop.md section 2).
  | .syscall code => Sys2Proof.Machine.execSyscall code s
  | .brk code => Sys2Proof.Machine.execBrk code s
  -- COP0 moves and commands (45_system_cop.md sections 3 and 4).
  | .mfc0 rt cr => Sys2Proof.Machine.execMfc0 rt cr s
  | .mtc0 rt cr => Sys2Proof.Machine.execMtc0 rt cr s
  | .bc0f imm => Sys2Proof.Machine.execBc0f imm s
  | .bc0t imm => Sys2Proof.Machine.execBc0t imm s
  | .cfc0 rt cr => Sys2Proof.Machine.execCfc0 rt cr s
  | .ctc0 rt cr => Sys2Proof.Machine.execCtc0 rt cr s
  | .rfe => Sys2Proof.Machine.execRfe s
  -- The BcondZ words with any other rt (43_branch.md R718).
  | .bcondzRt02 rs imm => Sys2Proof.Machine.execBcondzRt02 rs imm s
  | .bcondzRt03 rs imm => Sys2Proof.Machine.execBcondzRt03 rs imm s
  | .bcondzRt04 rs imm => Sys2Proof.Machine.execBcondzRt04 rs imm s
  | .bcondzRt05 rs imm => Sys2Proof.Machine.execBcondzRt05 rs imm s
  | .bcondzRt06 rs imm => Sys2Proof.Machine.execBcondzRt06 rs imm s
  | .bcondzRt07 rs imm => Sys2Proof.Machine.execBcondzRt07 rs imm s
  | .bcondzRt08 rs imm => Sys2Proof.Machine.execBcondzRt08 rs imm s
  | .bcondzRt09 rs imm => Sys2Proof.Machine.execBcondzRt09 rs imm s
  | .bcondzRt0A rs imm => Sys2Proof.Machine.execBcondzRt0A rs imm s
  | .bcondzRt0B rs imm => Sys2Proof.Machine.execBcondzRt0B rs imm s
  | .bcondzRt0C rs imm => Sys2Proof.Machine.execBcondzRt0C rs imm s
  | .bcondzRt0D rs imm => Sys2Proof.Machine.execBcondzRt0D rs imm s
  | .bcondzRt0E rs imm => Sys2Proof.Machine.execBcondzRt0E rs imm s
  | .bcondzRt0F rs imm => Sys2Proof.Machine.execBcondzRt0F rs imm s
  | .bcondzRt12 rs imm => Sys2Proof.Machine.execBcondzRt12 rs imm s
  | .bcondzRt13 rs imm => Sys2Proof.Machine.execBcondzRt13 rs imm s
  | .bcondzRt14 rs imm => Sys2Proof.Machine.execBcondzRt14 rs imm s
  | .bcondzRt15 rs imm => Sys2Proof.Machine.execBcondzRt15 rs imm s
  | .bcondzRt16 rs imm => Sys2Proof.Machine.execBcondzRt16 rs imm s
  | .bcondzRt17 rs imm => Sys2Proof.Machine.execBcondzRt17 rs imm s
  | .bcondzRt18 rs imm => Sys2Proof.Machine.execBcondzRt18 rs imm s
  | .bcondzRt19 rs imm => Sys2Proof.Machine.execBcondzRt19 rs imm s
  | .bcondzRt1A rs imm => Sys2Proof.Machine.execBcondzRt1A rs imm s
  | .bcondzRt1B rs imm => Sys2Proof.Machine.execBcondzRt1B rs imm s
  | .bcondzRt1C rs imm => Sys2Proof.Machine.execBcondzRt1C rs imm s
  | .bcondzRt1D rs imm => Sys2Proof.Machine.execBcondzRt1D rs imm s
  | .bcondzRt1E rs imm => Sys2Proof.Machine.execBcondzRt1E rs imm s
  | .bcondzRt1F rs imm => Sys2Proof.Machine.execBcondzRt1F rs imm s
  -- Every other COP0 command (45_system_cop.md R921).
  | .cop0Generic funct => Sys2Proof.Machine.execCop0Generic funct s
  -- The COP0 encodings the source does not name (30_encoding.md R341).
  | .cop0Rs01 => Sys2Proof.Machine.execCop0Rs01 s
  | .cop0Rs03 => Sys2Proof.Machine.execCop0Rs03 s
  | .cop0Rs05 => Sys2Proof.Machine.execCop0Rs05 s
  | .cop0Rs07 => Sys2Proof.Machine.execCop0Rs07 s
  | .cop0Rs09 => Sys2Proof.Machine.execCop0Rs09 s
  | .cop0Rs0A => Sys2Proof.Machine.execCop0Rs0A s
  | .cop0Rs0B => Sys2Proof.Machine.execCop0Rs0B s
  | .cop0Rs0C => Sys2Proof.Machine.execCop0Rs0C s
  | .cop0Rs0D => Sys2Proof.Machine.execCop0Rs0D s
  | .cop0Rs0E => Sys2Proof.Machine.execCop0Rs0E s
  | .cop0Rs0F => Sys2Proof.Machine.execCop0Rs0F s
  | .cop0Rs08Other cond => Sys2Proof.Machine.execCop0Rs08Other cond s
  -- COP1 and COP3 (45_system_cop.md R930).
  | .cop1 => Sys2Proof.Machine.execCop1 s
  | .cop3 => Sys2Proof.Machine.execCop3 s
  | .lwc1 => Sys2Proof.Machine.execLwc1 s
  | .lwc3 => Sys2Proof.Machine.execLwc3 s
  | .swc1 => Sys2Proof.Machine.execSwc1 s
  | .swc3 => Sys2Proof.Machine.execSwc3 s
  -- COP2 (45_system_cop.md R931).
  | .cop2 => Sys2Proof.Machine.execCop2 s
  | .lwc2 => Sys2Proof.Machine.execLwc2 s
  | .swc2 => Sys2Proof.Machine.execSwc2 s
  -- Reserved primary opcodes (30_encoding.md R340).
  | .reservedOp14 => Sys2Proof.Machine.execReservedOp14 s
  | .reservedOp15 => Sys2Proof.Machine.execReservedOp15 s
  | .reservedOp16 => Sys2Proof.Machine.execReservedOp16 s
  | .reservedOp17 => Sys2Proof.Machine.execReservedOp17 s
  | .reservedOp18 => Sys2Proof.Machine.execReservedOp18 s
  | .reservedOp19 => Sys2Proof.Machine.execReservedOp19 s
  | .reservedOp1A => Sys2Proof.Machine.execReservedOp1A s
  | .reservedOp1B => Sys2Proof.Machine.execReservedOp1B s
  | .reservedOp1C => Sys2Proof.Machine.execReservedOp1C s
  | .reservedOp1D => Sys2Proof.Machine.execReservedOp1D s
  | .reservedOp1E => Sys2Proof.Machine.execReservedOp1E s
  | .reservedOp1F => Sys2Proof.Machine.execReservedOp1F s
  | .reservedOp27 => Sys2Proof.Machine.execReservedOp27 s
  | .reservedOp2C => Sys2Proof.Machine.execReservedOp2C s
  | .reservedOp2D => Sys2Proof.Machine.execReservedOp2D s
  | .reservedOp2F => Sys2Proof.Machine.execReservedOp2F s
  | .reservedOp34 => Sys2Proof.Machine.execReservedOp34 s
  | .reservedOp35 => Sys2Proof.Machine.execReservedOp35 s
  | .reservedOp36 => Sys2Proof.Machine.execReservedOp36 s
  | .reservedOp37 => Sys2Proof.Machine.execReservedOp37 s
  | .reservedOp3C => Sys2Proof.Machine.execReservedOp3C s
  | .reservedOp3D => Sys2Proof.Machine.execReservedOp3D s
  | .reservedOp3E => Sys2Proof.Machine.execReservedOp3E s
  | .reservedOp3F => Sys2Proof.Machine.execReservedOp3F s
  -- Reserved SPECIAL functions (30_encoding.md R340).
  | .reservedFunct01 => Sys2Proof.Machine.execReservedFunct01 s
  | .reservedFunct05 => Sys2Proof.Machine.execReservedFunct05 s
  | .reservedFunct0A => Sys2Proof.Machine.execReservedFunct0A s
  | .reservedFunct0B => Sys2Proof.Machine.execReservedFunct0B s
  | .reservedFunct0E => Sys2Proof.Machine.execReservedFunct0E s
  | .reservedFunct0F => Sys2Proof.Machine.execReservedFunct0F s
  | .reservedFunct14 => Sys2Proof.Machine.execReservedFunct14 s
  | .reservedFunct15 => Sys2Proof.Machine.execReservedFunct15 s
  | .reservedFunct16 => Sys2Proof.Machine.execReservedFunct16 s
  | .reservedFunct17 => Sys2Proof.Machine.execReservedFunct17 s
  | .reservedFunct1C => Sys2Proof.Machine.execReservedFunct1C s
  | .reservedFunct1D => Sys2Proof.Machine.execReservedFunct1D s
  | .reservedFunct1E => Sys2Proof.Machine.execReservedFunct1E s
  | .reservedFunct1F => Sys2Proof.Machine.execReservedFunct1F s
  | .reservedFunct28 => Sys2Proof.Machine.execReservedFunct28 s
  | .reservedFunct29 => Sys2Proof.Machine.execReservedFunct29 s
  | .reservedFunct2C => Sys2Proof.Machine.execReservedFunct2C s
  | .reservedFunct2D => Sys2Proof.Machine.execReservedFunct2D s
  | .reservedFunct2E => Sys2Proof.Machine.execReservedFunct2E s
  | .reservedFunct2F => Sys2Proof.Machine.execReservedFunct2F s
  | .reservedFunct30 => Sys2Proof.Machine.execReservedFunct30 s
  | .reservedFunct31 => Sys2Proof.Machine.execReservedFunct31 s
  | .reservedFunct32 => Sys2Proof.Machine.execReservedFunct32 s
  | .reservedFunct33 => Sys2Proof.Machine.execReservedFunct33 s
  | .reservedFunct34 => Sys2Proof.Machine.execReservedFunct34 s
  | .reservedFunct35 => Sys2Proof.Machine.execReservedFunct35 s
  | .reservedFunct36 => Sys2Proof.Machine.execReservedFunct36 s
  | .reservedFunct37 => Sys2Proof.Machine.execReservedFunct37 s
  | .reservedFunct38 => Sys2Proof.Machine.execReservedFunct38 s
  | .reservedFunct39 => Sys2Proof.Machine.execReservedFunct39 s
  | .reservedFunct3A => Sys2Proof.Machine.execReservedFunct3A s
  | .reservedFunct3B => Sys2Proof.Machine.execReservedFunct3B s
  | .reservedFunct3C => Sys2Proof.Machine.execReservedFunct3C s
  | .reservedFunct3D => Sys2Proof.Machine.execReservedFunct3D s
  | .reservedFunct3E => Sys2Proof.Machine.execReservedFunct3E s
  | .reservedFunct3F => Sys2Proof.Machine.execReservedFunct3F s

end Sys2Proof.Machine
end

