-- ==== Sys2Proof/WellFormed.lean ====
section
/-! DEFINITION. Which instructions have an encoding of their own. Register indices and immediates are bounded by their
types; the two operands below carry a side condition. -/

namespace Sys2Proof

/-- A generic COP0 command's function is not 0x10, which is RFE (45_system_cop.md R921); an unnamed rs = 0x08 word's rt
is neither 0 nor 1, which are BC0F and BC0T (30_encoding.md R324). -/
def Instr.wf : Instr → Bool
  | .cop0Generic funct => funct != 0x10#6
  | .cop0Rs08Other cond => cond != 0#5 && cond != 1#5
  | _ => true

end Sys2Proof
end

