-- ==== Sys2Proof/Decode.lean ====
section
/-! DEFINITION. The decoder (30_encoding.md R320-R341), the encoder written from the same tables, and the rows of
spec/opcode_table.json as masks and values. The decoder is total: a reserved or unnamed word decodes to its own
constructor, never to a neighbour. -/

namespace Sys2Proof

/-! ### Fields of a word (30_encoding.md R302) -/

/-- `op`, w[31:26]. -/
def opField (w : Word) : BitVec 6 := w.extractLsb' 26 6
/-- The rs field, w[25:21], as bits: a COPz sub-operation. -/
def rsBits (w : Word) : BitVec 5 := w.extractLsb' 21 5
/-- The rt field, w[20:16], as bits: a BcondZ or BCz sub-operation. -/
def rtBits (w : Word) : BitVec 5 := w.extractLsb' 16 5
/-- `rs`, w[25:21], as a register index. -/
def rsField (w : Word) : Reg := (rsBits w).toFin
/-- `rt`, w[20:16], as a register index. -/
def rtField (w : Word) : Reg := (rtBits w).toFin
/-- `rd`, w[15:11], as a register index (a COP0 index for MFC0 and MTC0). -/
def rdField (w : Word) : Reg := (w.extractLsb' 11 5).toFin
/-- `sa`, w[10:6]. -/
def saField (w : Word) : BitVec 5 := w.extractLsb' 6 5
/-- `funct`, w[5:0]. -/
def functField (w : Word) : BitVec 6 := w.extractLsb' 0 6
/-- `imm16`, w[15:0]. -/
def immField (w : Word) : BitVec 16 := w.extractLsb' 0 16
/-- `target`, w[25:0]. -/
def targetField (w : Word) : BitVec 26 := w.extractLsb' 0 26
/-- `code20`, w[25:6]. -/
def codeField (w : Word) : BitVec 20 := w.extractLsb' 6 20

/-! ### The decoder -/

/-- The SPECIAL function map (op = 0), by `funct` alone: 30_encoding.md R322, R330, R340. The last line is 0x3F. -/
def decodeSpecial (w : Word) : Instr :=
  match (functField w).toNat with
  | 0x00 => .sll (rdField w) (rtField w) (saField w)
  | 0x01 => .reservedFunct01
  | 0x02 => .srl (rdField w) (rtField w) (saField w)
  | 0x03 => .sra (rdField w) (rtField w) (saField w)
  | 0x04 => .sllv (rdField w) (rtField w) (rsField w)
  | 0x05 => .reservedFunct05
  | 0x06 => .srlv (rdField w) (rtField w) (rsField w)
  | 0x07 => .srav (rdField w) (rtField w) (rsField w)
  | 0x08 => .jr (rsField w)
  | 0x09 => .jalr (rdField w) (rsField w)
  | 0x0A => .reservedFunct0A
  | 0x0B => .reservedFunct0B
  | 0x0C => .syscall (codeField w)
  | 0x0D => .brk (codeField w)
  | 0x0E => .reservedFunct0E
  | 0x0F => .reservedFunct0F
  | 0x10 => .mfhi (rdField w)
  | 0x11 => .mthi (rsField w)
  | 0x12 => .mflo (rdField w)
  | 0x13 => .mtlo (rsField w)
  | 0x14 => .reservedFunct14
  | 0x15 => .reservedFunct15
  | 0x16 => .reservedFunct16
  | 0x17 => .reservedFunct17
  | 0x18 => .mult (rsField w) (rtField w)
  | 0x19 => .multu (rsField w) (rtField w)
  | 0x1A => .div (rsField w) (rtField w)
  | 0x1B => .divu (rsField w) (rtField w)
  | 0x1C => .reservedFunct1C
  | 0x1D => .reservedFunct1D
  | 0x1E => .reservedFunct1E
  | 0x1F => .reservedFunct1F
  | 0x20 => .add (rdField w) (rsField w) (rtField w)
  | 0x21 => .addu (rdField w) (rsField w) (rtField w)
  | 0x22 => .sub (rdField w) (rsField w) (rtField w)
  | 0x23 => .subu (rdField w) (rsField w) (rtField w)
  | 0x24 => .and (rdField w) (rsField w) (rtField w)
  | 0x25 => .or (rdField w) (rsField w) (rtField w)
  | 0x26 => .xor (rdField w) (rsField w) (rtField w)
  | 0x27 => .nor (rdField w) (rsField w) (rtField w)
  | 0x28 => .reservedFunct28
  | 0x29 => .reservedFunct29
  | 0x2A => .slt (rdField w) (rsField w) (rtField w)
  | 0x2B => .sltu (rdField w) (rsField w) (rtField w)
  | 0x2C => .reservedFunct2C
  | 0x2D => .reservedFunct2D
  | 0x2E => .reservedFunct2E
  | 0x2F => .reservedFunct2F
  | 0x30 => .reservedFunct30
  | 0x31 => .reservedFunct31
  | 0x32 => .reservedFunct32
  | 0x33 => .reservedFunct33
  | 0x34 => .reservedFunct34
  | 0x35 => .reservedFunct35
  | 0x36 => .reservedFunct36
  | 0x37 => .reservedFunct37
  | 0x38 => .reservedFunct38
  | 0x39 => .reservedFunct39
  | 0x3A => .reservedFunct3A
  | 0x3B => .reservedFunct3B
  | 0x3C => .reservedFunct3C
  | 0x3D => .reservedFunct3D
  | 0x3E => .reservedFunct3E
  | _ => .reservedFunct3F

/-- The BcondZ sub-decode (op = 1) by `rt`: 30_encoding.md R323. The last line is 0x1F. -/
def decodeBcondZ (w : Word) : Instr :=
  match (rtBits w).toNat with
  | 0x00 => .bltz (rsField w) (immField w)
  | 0x01 => .bgez (rsField w) (immField w)
  | 0x02 => .bcondzRt02 (rsField w) (immField w)
  | 0x03 => .bcondzRt03 (rsField w) (immField w)
  | 0x04 => .bcondzRt04 (rsField w) (immField w)
  | 0x05 => .bcondzRt05 (rsField w) (immField w)
  | 0x06 => .bcondzRt06 (rsField w) (immField w)
  | 0x07 => .bcondzRt07 (rsField w) (immField w)
  | 0x08 => .bcondzRt08 (rsField w) (immField w)
  | 0x09 => .bcondzRt09 (rsField w) (immField w)
  | 0x0A => .bcondzRt0A (rsField w) (immField w)
  | 0x0B => .bcondzRt0B (rsField w) (immField w)
  | 0x0C => .bcondzRt0C (rsField w) (immField w)
  | 0x0D => .bcondzRt0D (rsField w) (immField w)
  | 0x0E => .bcondzRt0E (rsField w) (immField w)
  | 0x0F => .bcondzRt0F (rsField w) (immField w)
  | 0x10 => .bltzal (rsField w) (immField w)
  | 0x11 => .bgezal (rsField w) (immField w)
  | 0x12 => .bcondzRt12 (rsField w) (immField w)
  | 0x13 => .bcondzRt13 (rsField w) (immField w)
  | 0x14 => .bcondzRt14 (rsField w) (immField w)
  | 0x15 => .bcondzRt15 (rsField w) (immField w)
  | 0x16 => .bcondzRt16 (rsField w) (immField w)
  | 0x17 => .bcondzRt17 (rsField w) (immField w)
  | 0x18 => .bcondzRt18 (rsField w) (immField w)
  | 0x19 => .bcondzRt19 (rsField w) (immField w)
  | 0x1A => .bcondzRt1A (rsField w) (immField w)
  | 0x1B => .bcondzRt1B (rsField w) (immField w)
  | 0x1C => .bcondzRt1C (rsField w) (immField w)
  | 0x1D => .bcondzRt1D (rsField w) (immField w)
  | 0x1E => .bcondzRt1E (rsField w) (immField w)
  | _ => .bcondzRt1F (rsField w) (immField w)

/-- The COP0 sub-decode (op = 0x10) by `rs`, then `rt` or `funct`: 30_encoding.md R324, R341. The last line is
rs[4] = 1, the commands. -/
def decodeCop0 (w : Word) : Instr :=
  match (rsBits w).toNat with
  | 0x00 => .mfc0 (rtField w) (rdField w)
  | 0x01 => .cop0Rs01
  | 0x02 => .cfc0 (rtField w) (rdField w)
  | 0x03 => .cop0Rs03
  | 0x04 => .mtc0 (rtField w) (rdField w)
  | 0x05 => .cop0Rs05
  | 0x06 => .ctc0 (rtField w) (rdField w)
  | 0x07 => .cop0Rs07
  | 0x08 => if rtBits w = 0x00#5 then .bc0f (immField w) else if rtBits w = 0x01#5 then .bc0t (immField w)
      else .cop0Rs08Other (rtBits w)
  | 0x09 => .cop0Rs09
  | 0x0A => .cop0Rs0A
  | 0x0B => .cop0Rs0B
  | 0x0C => .cop0Rs0C
  | 0x0D => .cop0Rs0D
  | 0x0E => .cop0Rs0E
  | 0x0F => .cop0Rs0F
  | _ => if functField w = 0x10#6 then .rfe else .cop0Generic (functField w)

/-- The decoder: 30_encoding.md R320, R321, R325, R340. The last line is the reserved opcode 0x3F. -/
def decode (w : Word) : Instr :=
  match (opField w).toNat with
  | 0x00 => decodeSpecial w
  | 0x01 => decodeBcondZ w
  | 0x02 => .j (targetField w)
  | 0x03 => .jal (targetField w)
  | 0x04 => .beq (rsField w) (rtField w) (immField w)
  | 0x05 => .bne (rsField w) (rtField w) (immField w)
  | 0x06 => .blez (rsField w) (immField w)
  | 0x07 => .bgtz (rsField w) (immField w)
  | 0x08 => .addi (rtField w) (rsField w) (immField w)
  | 0x09 => .addiu (rtField w) (rsField w) (immField w)
  | 0x0A => .slti (rtField w) (rsField w) (immField w)
  | 0x0B => .sltiu (rtField w) (rsField w) (immField w)
  | 0x0C => .andi (rtField w) (rsField w) (immField w)
  | 0x0D => .ori (rtField w) (rsField w) (immField w)
  | 0x0E => .xori (rtField w) (rsField w) (immField w)
  | 0x0F => .lui (rtField w) (immField w)
  | 0x10 => decodeCop0 w
  | 0x11 => .cop1
  | 0x12 => .cop2
  | 0x13 => .cop3
  | 0x14 => .reservedOp14
  | 0x15 => .reservedOp15
  | 0x16 => .reservedOp16
  | 0x17 => .reservedOp17
  | 0x18 => .reservedOp18
  | 0x19 => .reservedOp19
  | 0x1A => .reservedOp1A
  | 0x1B => .reservedOp1B
  | 0x1C => .reservedOp1C
  | 0x1D => .reservedOp1D
  | 0x1E => .reservedOp1E
  | 0x1F => .reservedOp1F
  | 0x20 => .lb (rtField w) (rsField w) (immField w)
  | 0x21 => .lh (rtField w) (rsField w) (immField w)
  | 0x22 => .lwl (rtField w) (rsField w) (immField w)
  | 0x23 => .lw (rtField w) (rsField w) (immField w)
  | 0x24 => .lbu (rtField w) (rsField w) (immField w)
  | 0x25 => .lhu (rtField w) (rsField w) (immField w)
  | 0x26 => .lwr (rtField w) (rsField w) (immField w)
  | 0x27 => .reservedOp27
  | 0x28 => .sb (rtField w) (rsField w) (immField w)
  | 0x29 => .sh (rtField w) (rsField w) (immField w)
  | 0x2A => .swl (rtField w) (rsField w) (immField w)
  | 0x2B => .sw (rtField w) (rsField w) (immField w)
  | 0x2C => .reservedOp2C
  | 0x2D => .reservedOp2D
  | 0x2E => .swr (rtField w) (rsField w) (immField w)
  | 0x2F => .reservedOp2F
  | 0x30 => .lwc0 (rtField w) (rsField w) (immField w)
  | 0x31 => .lwc1
  | 0x32 => .lwc2
  | 0x33 => .lwc3
  | 0x34 => .reservedOp34
  | 0x35 => .reservedOp35
  | 0x36 => .reservedOp36
  | 0x37 => .reservedOp37
  | 0x38 => .swc0 (rtField w) (rsField w) (immField w)
  | 0x39 => .swc1
  | 0x3A => .swc2
  | 0x3B => .swc3
  | 0x3C => .reservedOp3C
  | 0x3D => .reservedOp3D
  | 0x3E => .reservedOp3E
  | _ => .reservedOp3F

/-- Why a list of bytes does not decode: an instruction is exactly four bytes (30_encoding.md R301). -/
inductive DecodeError where
  /-- Fewer than four bytes are left. -/
  | truncated
  deriving DecidableEq, Repr

/-- The word whose bytes, lowest address first, are b0 b1 b2 b3 (20_memory.md R200, R201). -/
def wordOfBytes (b0 b1 b2 b3 : Byte) : Word := b3 ++ b2 ++ b1 ++ b0

/-- Decode the first instruction of a list of bytes; the rest of the list comes with it. -/
def decodeBytes : List Byte → Except DecodeError (Instr × List Byte)
  | b0 :: b1 :: b2 :: b3 :: rest => .ok (decode (wordOfBytes b0 b1 b2 b3), rest)
  | _ => .error .truncated

/-- The bytes of the first `n` bits of `w` (numbered as spec/opcode_table.json numbers them), lowest address first,
every bit above `n` being 0. -/
def tableBytes (nbits w : Nat) : List Byte :=
  let v := BitVec.ofNat 32 (w % 2 ^ nbits)
  [v.extractLsb' 0 8, v.extractLsb' 8 8, v.extractLsb' 16 8, v.extractLsb' 24 8]

/-- The instruction the decoder reads from an instruction of `nbits` bits whose bits are `w`. -/
def decodeTableWord (nbits w : Nat) : Option Instr :=
  match decodeBytes (tableBytes nbits w) with
  | .ok (i, _) => some i
  | .error _ => none

/-! ### The encoder -/

/-- A register index as a 5-bit field. -/
def regBits (r : Reg) : BitVec 5 := BitVec.ofFin r
/-- The register format (30_encoding.md R303). -/
def encR (rs rt rd : Reg) (sa : BitVec 5) (funct : BitVec 6) : Word :=
  0x00#6 ++ regBits rs ++ regBits rt ++ regBits rd ++ sa ++ funct
/-- The immediate format (30_encoding.md R304). -/
def encI (op : BitVec 6) (rs rt : Reg) (imm : BitVec 16) : Word := op ++ regBits rs ++ regBits rt ++ imm
/-- The jump format (30_encoding.md R305). -/
def encJ (op : BitVec 6) (target : BitVec 26) : Word := op ++ target
/-- SYSCALL and BREAK with their code field (30_encoding.md R302). -/
def encCode (code : BitVec 20) (funct : BitVec 6) : Word := 0x00#6 ++ code ++ funct
/-- The coprocessor format of op = 0x10, rs[4] = 0 (30_encoding.md R306). -/
def encCop (rs rt rd : Reg) : Word := 0x10#6 ++ regBits rs ++ regBits rt ++ regBits rd ++ 0#11
/-- The coprocessor format of op = 0x10, rs[4] = 1 (30_encoding.md R306). -/
def encCmd (funct : BitVec 6) : Word := 0x10#6 ++ 1#1 ++ 0#19 ++ funct

/-- The word of an instruction, every ignored bit 0 (30_encoding.md R302-R306, R321-R324). -/
def encode : Instr → Word
  | .sll rd rt sa => encR 0 rt rd sa 0x00#6
  | .srl rd rt sa => encR 0 rt rd sa 0x02#6
  | .sra rd rt sa => encR 0 rt rd sa 0x03#6
  | .sllv rd rt rs => encR rs rt rd 0#5 0x04#6
  | .srlv rd rt rs => encR rs rt rd 0#5 0x06#6
  | .srav rd rt rs => encR rs rt rd 0#5 0x07#6
  | .add rd rs rt => encR rs rt rd 0#5 0x20#6
  | .addu rd rs rt => encR rs rt rd 0#5 0x21#6
  | .sub rd rs rt => encR rs rt rd 0#5 0x22#6
  | .subu rd rs rt => encR rs rt rd 0#5 0x23#6
  | .and rd rs rt => encR rs rt rd 0#5 0x24#6
  | .or rd rs rt => encR rs rt rd 0#5 0x25#6
  | .xor rd rs rt => encR rs rt rd 0#5 0x26#6
  | .nor rd rs rt => encR rs rt rd 0#5 0x27#6
  | .slt rd rs rt => encR rs rt rd 0#5 0x2A#6
  | .sltu rd rs rt => encR rs rt rd 0#5 0x2B#6
  | .addi rt rs imm => encI 0x08#6 rs rt imm
  | .addiu rt rs imm => encI 0x09#6 rs rt imm
  | .slti rt rs imm => encI 0x0A#6 rs rt imm
  | .sltiu rt rs imm => encI 0x0B#6 rs rt imm
  | .andi rt rs imm => encI 0x0C#6 rs rt imm
  | .ori rt rs imm => encI 0x0D#6 rs rt imm
  | .xori rt rs imm => encI 0x0E#6 rs rt imm
  | .lui rt imm => encI 0x0F#6 0 rt imm
  | .mult rs rt => encR rs rt 0 0#5 0x18#6
  | .multu rs rt => encR rs rt 0 0#5 0x19#6
  | .div rs rt => encR rs rt 0 0#5 0x1A#6
  | .divu rs rt => encR rs rt 0 0#5 0x1B#6
  | .mfhi rd => encR 0 0 rd 0#5 0x10#6
  | .mflo rd => encR 0 0 rd 0#5 0x12#6
  | .mthi rs => encR rs 0 0 0#5 0x11#6
  | .mtlo rs => encR rs 0 0 0#5 0x13#6
  | .beq rs rt imm => encI 0x04#6 rs rt imm
  | .bne rs rt imm => encI 0x05#6 rs rt imm
  | .blez rs imm => encI 0x06#6 rs 0 imm
  | .bgtz rs imm => encI 0x07#6 rs 0 imm
  | .bltz rs imm => encI 0x01#6 rs 0 imm
  | .bgez rs imm => encI 0x01#6 rs 1 imm
  | .bltzal rs imm => encI 0x01#6 rs 16 imm
  | .bgezal rs imm => encI 0x01#6 rs 17 imm
  | .j target => encJ 0x02#6 target
  | .jal target => encJ 0x03#6 target
  | .jr rs => encR rs 0 0 0#5 0x08#6
  | .jalr rd rs => encR rs 0 rd 0#5 0x09#6
  | .lb rt rs imm => encI 0x20#6 rs rt imm
  | .lbu rt rs imm => encI 0x24#6 rs rt imm
  | .lh rt rs imm => encI 0x21#6 rs rt imm
  | .lhu rt rs imm => encI 0x25#6 rs rt imm
  | .lw rt rs imm => encI 0x23#6 rs rt imm
  | .lwl rt rs imm => encI 0x22#6 rs rt imm
  | .lwr rt rs imm => encI 0x26#6 rs rt imm
  | .sb rt rs imm => encI 0x28#6 rs rt imm
  | .sh rt rs imm => encI 0x29#6 rs rt imm
  | .sw rt rs imm => encI 0x2B#6 rs rt imm
  | .swl rt rs imm => encI 0x2A#6 rs rt imm
  | .swr rt rs imm => encI 0x2E#6 rs rt imm
  | .lwc0 cr rs imm => encI 0x30#6 rs cr imm
  | .swc0 cr rs imm => encI 0x38#6 rs cr imm
  | .syscall code => encCode code 0x0C#6
  | .brk code => encCode code 0x0D#6
  | .mfc0 rt cr => encCop 0 rt cr
  | .mtc0 rt cr => encCop 4 rt cr
  | .bc0f imm => encI 0x10#6 8 0 imm
  | .bc0t imm => encI 0x10#6 8 1 imm
  | .cfc0 rt cr => encCop 2 rt cr
  | .ctc0 rt cr => encCop 6 rt cr
  | .rfe => encCmd 0x10#6
  | .bcondzRt02 rs imm => encI 0x01#6 rs 2 imm
  | .bcondzRt03 rs imm => encI 0x01#6 rs 3 imm
  | .bcondzRt04 rs imm => encI 0x01#6 rs 4 imm
  | .bcondzRt05 rs imm => encI 0x01#6 rs 5 imm
  | .bcondzRt06 rs imm => encI 0x01#6 rs 6 imm
  | .bcondzRt07 rs imm => encI 0x01#6 rs 7 imm
  | .bcondzRt08 rs imm => encI 0x01#6 rs 8 imm
  | .bcondzRt09 rs imm => encI 0x01#6 rs 9 imm
  | .bcondzRt0A rs imm => encI 0x01#6 rs 10 imm
  | .bcondzRt0B rs imm => encI 0x01#6 rs 11 imm
  | .bcondzRt0C rs imm => encI 0x01#6 rs 12 imm
  | .bcondzRt0D rs imm => encI 0x01#6 rs 13 imm
  | .bcondzRt0E rs imm => encI 0x01#6 rs 14 imm
  | .bcondzRt0F rs imm => encI 0x01#6 rs 15 imm
  | .bcondzRt12 rs imm => encI 0x01#6 rs 18 imm
  | .bcondzRt13 rs imm => encI 0x01#6 rs 19 imm
  | .bcondzRt14 rs imm => encI 0x01#6 rs 20 imm
  | .bcondzRt15 rs imm => encI 0x01#6 rs 21 imm
  | .bcondzRt16 rs imm => encI 0x01#6 rs 22 imm
  | .bcondzRt17 rs imm => encI 0x01#6 rs 23 imm
  | .bcondzRt18 rs imm => encI 0x01#6 rs 24 imm
  | .bcondzRt19 rs imm => encI 0x01#6 rs 25 imm
  | .bcondzRt1A rs imm => encI 0x01#6 rs 26 imm
  | .bcondzRt1B rs imm => encI 0x01#6 rs 27 imm
  | .bcondzRt1C rs imm => encI 0x01#6 rs 28 imm
  | .bcondzRt1D rs imm => encI 0x01#6 rs 29 imm
  | .bcondzRt1E rs imm => encI 0x01#6 rs 30 imm
  | .bcondzRt1F rs imm => encI 0x01#6 rs 31 imm
  | .cop0Generic funct => encCmd funct
  | .cop0Rs01 => encCop 1 0 0
  | .cop0Rs03 => encCop 3 0 0
  | .cop0Rs05 => encCop 5 0 0
  | .cop0Rs07 => encCop 7 0 0
  | .cop0Rs09 => encCop 9 0 0
  | .cop0Rs0A => encCop 10 0 0
  | .cop0Rs0B => encCop 11 0 0
  | .cop0Rs0C => encCop 12 0 0
  | .cop0Rs0D => encCop 13 0 0
  | .cop0Rs0E => encCop 14 0 0
  | .cop0Rs0F => encCop 15 0 0
  | .cop0Rs08Other cond => encCop 8 (BitVec.toFin cond) 0
  | .cop1 => encI 0x11#6 0 0 0#16
  | .cop3 => encI 0x13#6 0 0 0#16
  | .lwc1 => encI 0x31#6 0 0 0#16
  | .lwc3 => encI 0x33#6 0 0 0#16
  | .swc1 => encI 0x39#6 0 0 0#16
  | .swc3 => encI 0x3B#6 0 0 0#16
  | .cop2 => encI 0x12#6 0 0 0#16
  | .lwc2 => encI 0x32#6 0 0 0#16
  | .swc2 => encI 0x3A#6 0 0 0#16
  | .reservedOp14 => encI 0x14#6 0 0 0#16
  | .reservedOp15 => encI 0x15#6 0 0 0#16
  | .reservedOp16 => encI 0x16#6 0 0 0#16
  | .reservedOp17 => encI 0x17#6 0 0 0#16
  | .reservedOp18 => encI 0x18#6 0 0 0#16
  | .reservedOp19 => encI 0x19#6 0 0 0#16
  | .reservedOp1A => encI 0x1A#6 0 0 0#16
  | .reservedOp1B => encI 0x1B#6 0 0 0#16
  | .reservedOp1C => encI 0x1C#6 0 0 0#16
  | .reservedOp1D => encI 0x1D#6 0 0 0#16
  | .reservedOp1E => encI 0x1E#6 0 0 0#16
  | .reservedOp1F => encI 0x1F#6 0 0 0#16
  | .reservedOp27 => encI 0x27#6 0 0 0#16
  | .reservedOp2C => encI 0x2C#6 0 0 0#16
  | .reservedOp2D => encI 0x2D#6 0 0 0#16
  | .reservedOp2F => encI 0x2F#6 0 0 0#16
  | .reservedOp34 => encI 0x34#6 0 0 0#16
  | .reservedOp35 => encI 0x35#6 0 0 0#16
  | .reservedOp36 => encI 0x36#6 0 0 0#16
  | .reservedOp37 => encI 0x37#6 0 0 0#16
  | .reservedOp3C => encI 0x3C#6 0 0 0#16
  | .reservedOp3D => encI 0x3D#6 0 0 0#16
  | .reservedOp3E => encI 0x3E#6 0 0 0#16
  | .reservedOp3F => encI 0x3F#6 0 0 0#16
  | .reservedFunct01 => encR 0 0 0 0#5 0x01#6
  | .reservedFunct05 => encR 0 0 0 0#5 0x05#6
  | .reservedFunct0A => encR 0 0 0 0#5 0x0A#6
  | .reservedFunct0B => encR 0 0 0 0#5 0x0B#6
  | .reservedFunct0E => encR 0 0 0 0#5 0x0E#6
  | .reservedFunct0F => encR 0 0 0 0#5 0x0F#6
  | .reservedFunct14 => encR 0 0 0 0#5 0x14#6
  | .reservedFunct15 => encR 0 0 0 0#5 0x15#6
  | .reservedFunct16 => encR 0 0 0 0#5 0x16#6
  | .reservedFunct17 => encR 0 0 0 0#5 0x17#6
  | .reservedFunct1C => encR 0 0 0 0#5 0x1C#6
  | .reservedFunct1D => encR 0 0 0 0#5 0x1D#6
  | .reservedFunct1E => encR 0 0 0 0#5 0x1E#6
  | .reservedFunct1F => encR 0 0 0 0#5 0x1F#6
  | .reservedFunct28 => encR 0 0 0 0#5 0x28#6
  | .reservedFunct29 => encR 0 0 0 0#5 0x29#6
  | .reservedFunct2C => encR 0 0 0 0#5 0x2C#6
  | .reservedFunct2D => encR 0 0 0 0#5 0x2D#6
  | .reservedFunct2E => encR 0 0 0 0#5 0x2E#6
  | .reservedFunct2F => encR 0 0 0 0#5 0x2F#6
  | .reservedFunct30 => encR 0 0 0 0#5 0x30#6
  | .reservedFunct31 => encR 0 0 0 0#5 0x31#6
  | .reservedFunct32 => encR 0 0 0 0#5 0x32#6
  | .reservedFunct33 => encR 0 0 0 0#5 0x33#6
  | .reservedFunct34 => encR 0 0 0 0#5 0x34#6
  | .reservedFunct35 => encR 0 0 0 0#5 0x35#6
  | .reservedFunct36 => encR 0 0 0 0#5 0x36#6
  | .reservedFunct37 => encR 0 0 0 0#5 0x37#6
  | .reservedFunct38 => encR 0 0 0 0#5 0x38#6
  | .reservedFunct39 => encR 0 0 0 0#5 0x39#6
  | .reservedFunct3A => encR 0 0 0 0#5 0x3A#6
  | .reservedFunct3B => encR 0 0 0 0#5 0x3B#6
  | .reservedFunct3C => encR 0 0 0 0#5 0x3C#6
  | .reservedFunct3D => encR 0 0 0 0#5 0x3D#6
  | .reservedFunct3E => encR 0 0 0 0#5 0x3E#6
  | .reservedFunct3F => encR 0 0 0 0#5 0x3F#6

/-! ### The opcode table -/

/-- A row of spec/opcode_table.json: the words `w` with `w &&& mask = value`, but for those of a named row inside it
(`butNot`: RFE inside the COP0 commands, BC0F and BC0T inside rs = 0x08). -/
structure OpcodeRow where
  mnemonic : String
  mask : Word
  value : Word
  butNot : List (Word × Word) := []
  deriving DecidableEq, Repr

/-- The row covers the word. -/
def OpcodeRow.covers (r : OpcodeRow) (w : Word) : Bool :=
  w &&& r.mask = r.value && r.butNot.all fun p => w &&& p.1 != p.2

/-- An instruction's row of spec/opcode_table.json. -/
def Instr.row : Instr → OpcodeRow
  | .sll _ _ _ => { mnemonic := "SLL", mask := 0xFC00003F#32, value := 0x00000000#32 }
  | .srl _ _ _ => { mnemonic := "SRL", mask := 0xFC00003F#32, value := 0x00000002#32 }
  | .sra _ _ _ => { mnemonic := "SRA", mask := 0xFC00003F#32, value := 0x00000003#32 }
  | .sllv _ _ _ => { mnemonic := "SLLV", mask := 0xFC00003F#32, value := 0x00000004#32 }
  | .srlv _ _ _ => { mnemonic := "SRLV", mask := 0xFC00003F#32, value := 0x00000006#32 }
  | .srav _ _ _ => { mnemonic := "SRAV", mask := 0xFC00003F#32, value := 0x00000007#32 }
  | .add _ _ _ => { mnemonic := "ADD", mask := 0xFC00003F#32, value := 0x00000020#32 }
  | .addu _ _ _ => { mnemonic := "ADDU", mask := 0xFC00003F#32, value := 0x00000021#32 }
  | .sub _ _ _ => { mnemonic := "SUB", mask := 0xFC00003F#32, value := 0x00000022#32 }
  | .subu _ _ _ => { mnemonic := "SUBU", mask := 0xFC00003F#32, value := 0x00000023#32 }
  | .and _ _ _ => { mnemonic := "AND", mask := 0xFC00003F#32, value := 0x00000024#32 }
  | .or _ _ _ => { mnemonic := "OR", mask := 0xFC00003F#32, value := 0x00000025#32 }
  | .xor _ _ _ => { mnemonic := "XOR", mask := 0xFC00003F#32, value := 0x00000026#32 }
  | .nor _ _ _ => { mnemonic := "NOR", mask := 0xFC00003F#32, value := 0x00000027#32 }
  | .slt _ _ _ => { mnemonic := "SLT", mask := 0xFC00003F#32, value := 0x0000002A#32 }
  | .sltu _ _ _ => { mnemonic := "SLTU", mask := 0xFC00003F#32, value := 0x0000002B#32 }
  | .addi _ _ _ => { mnemonic := "ADDI", mask := 0xFC000000#32, value := 0x20000000#32 }
  | .addiu _ _ _ => { mnemonic := "ADDIU", mask := 0xFC000000#32, value := 0x24000000#32 }
  | .slti _ _ _ => { mnemonic := "SLTI", mask := 0xFC000000#32, value := 0x28000000#32 }
  | .sltiu _ _ _ => { mnemonic := "SLTIU", mask := 0xFC000000#32, value := 0x2C000000#32 }
  | .andi _ _ _ => { mnemonic := "ANDI", mask := 0xFC000000#32, value := 0x30000000#32 }
  | .ori _ _ _ => { mnemonic := "ORI", mask := 0xFC000000#32, value := 0x34000000#32 }
  | .xori _ _ _ => { mnemonic := "XORI", mask := 0xFC000000#32, value := 0x38000000#32 }
  | .lui _ _ => { mnemonic := "LUI", mask := 0xFC000000#32, value := 0x3C000000#32 }
  | .mult _ _ => { mnemonic := "MULT", mask := 0xFC00003F#32, value := 0x00000018#32 }
  | .multu _ _ => { mnemonic := "MULTU", mask := 0xFC00003F#32, value := 0x00000019#32 }
  | .div _ _ => { mnemonic := "DIV", mask := 0xFC00003F#32, value := 0x0000001A#32 }
  | .divu _ _ => { mnemonic := "DIVU", mask := 0xFC00003F#32, value := 0x0000001B#32 }
  | .mfhi _ => { mnemonic := "MFHI", mask := 0xFC00003F#32, value := 0x00000010#32 }
  | .mflo _ => { mnemonic := "MFLO", mask := 0xFC00003F#32, value := 0x00000012#32 }
  | .mthi _ => { mnemonic := "MTHI", mask := 0xFC00003F#32, value := 0x00000011#32 }
  | .mtlo _ => { mnemonic := "MTLO", mask := 0xFC00003F#32, value := 0x00000013#32 }
  | .beq _ _ _ => { mnemonic := "BEQ", mask := 0xFC000000#32, value := 0x10000000#32 }
  | .bne _ _ _ => { mnemonic := "BNE", mask := 0xFC000000#32, value := 0x14000000#32 }
  | .blez _ _ => { mnemonic := "BLEZ", mask := 0xFC000000#32, value := 0x18000000#32 }
  | .bgtz _ _ => { mnemonic := "BGTZ", mask := 0xFC000000#32, value := 0x1C000000#32 }
  | .bltz _ _ => { mnemonic := "BLTZ", mask := 0xFC1F0000#32, value := 0x04000000#32 }
  | .bgez _ _ => { mnemonic := "BGEZ", mask := 0xFC1F0000#32, value := 0x04010000#32 }
  | .bltzal _ _ => { mnemonic := "BLTZAL", mask := 0xFC1F0000#32, value := 0x04100000#32 }
  | .bgezal _ _ => { mnemonic := "BGEZAL", mask := 0xFC1F0000#32, value := 0x04110000#32 }
  | .j _ => { mnemonic := "J", mask := 0xFC000000#32, value := 0x08000000#32 }
  | .jal _ => { mnemonic := "JAL", mask := 0xFC000000#32, value := 0x0C000000#32 }
  | .jr _ => { mnemonic := "JR", mask := 0xFC00003F#32, value := 0x00000008#32 }
  | .jalr _ _ => { mnemonic := "JALR", mask := 0xFC00003F#32, value := 0x00000009#32 }
  | .lb _ _ _ => { mnemonic := "LB", mask := 0xFC000000#32, value := 0x80000000#32 }
  | .lbu _ _ _ => { mnemonic := "LBU", mask := 0xFC000000#32, value := 0x90000000#32 }
  | .lh _ _ _ => { mnemonic := "LH", mask := 0xFC000000#32, value := 0x84000000#32 }
  | .lhu _ _ _ => { mnemonic := "LHU", mask := 0xFC000000#32, value := 0x94000000#32 }
  | .lw _ _ _ => { mnemonic := "LW", mask := 0xFC000000#32, value := 0x8C000000#32 }
  | .lwl _ _ _ => { mnemonic := "LWL", mask := 0xFC000000#32, value := 0x88000000#32 }
  | .lwr _ _ _ => { mnemonic := "LWR", mask := 0xFC000000#32, value := 0x98000000#32 }
  | .sb _ _ _ => { mnemonic := "SB", mask := 0xFC000000#32, value := 0xA0000000#32 }
  | .sh _ _ _ => { mnemonic := "SH", mask := 0xFC000000#32, value := 0xA4000000#32 }
  | .sw _ _ _ => { mnemonic := "SW", mask := 0xFC000000#32, value := 0xAC000000#32 }
  | .swl _ _ _ => { mnemonic := "SWL", mask := 0xFC000000#32, value := 0xA8000000#32 }
  | .swr _ _ _ => { mnemonic := "SWR", mask := 0xFC000000#32, value := 0xB8000000#32 }
  | .lwc0 _ _ _ => { mnemonic := "LWC0", mask := 0xFC000000#32, value := 0xC0000000#32 }
  | .swc0 _ _ _ => { mnemonic := "SWC0", mask := 0xFC000000#32, value := 0xE0000000#32 }
  | .syscall _ => { mnemonic := "SYSCALL", mask := 0xFC00003F#32, value := 0x0000000C#32 }
  | .brk _ => { mnemonic := "BREAK", mask := 0xFC00003F#32, value := 0x0000000D#32 }
  | .mfc0 _ _ => { mnemonic := "MFC0", mask := 0xFFE00000#32, value := 0x40000000#32 }
  | .mtc0 _ _ => { mnemonic := "MTC0", mask := 0xFFE00000#32, value := 0x40800000#32 }
  | .bc0f _ => { mnemonic := "BC0F", mask := 0xFFFF0000#32, value := 0x41000000#32 }
  | .bc0t _ => { mnemonic := "BC0T", mask := 0xFFFF0000#32, value := 0x41010000#32 }
  | .cfc0 _ _ => { mnemonic := "CFC0", mask := 0xFFE00000#32, value := 0x40400000#32 }
  | .ctc0 _ _ => { mnemonic := "CTC0", mask := 0xFFE00000#32, value := 0x40C00000#32 }
  | .rfe => { mnemonic := "RFE", mask := 0xFE00003F#32, value := 0x42000010#32 }
  | .bcondzRt02 _ _ => { mnemonic := "BCONDZ_RT02", mask := 0xFC1F0000#32, value := 0x04020000#32 }
  | .bcondzRt03 _ _ => { mnemonic := "BCONDZ_RT03", mask := 0xFC1F0000#32, value := 0x04030000#32 }
  | .bcondzRt04 _ _ => { mnemonic := "BCONDZ_RT04", mask := 0xFC1F0000#32, value := 0x04040000#32 }
  | .bcondzRt05 _ _ => { mnemonic := "BCONDZ_RT05", mask := 0xFC1F0000#32, value := 0x04050000#32 }
  | .bcondzRt06 _ _ => { mnemonic := "BCONDZ_RT06", mask := 0xFC1F0000#32, value := 0x04060000#32 }
  | .bcondzRt07 _ _ => { mnemonic := "BCONDZ_RT07", mask := 0xFC1F0000#32, value := 0x04070000#32 }
  | .bcondzRt08 _ _ => { mnemonic := "BCONDZ_RT08", mask := 0xFC1F0000#32, value := 0x04080000#32 }
  | .bcondzRt09 _ _ => { mnemonic := "BCONDZ_RT09", mask := 0xFC1F0000#32, value := 0x04090000#32 }
  | .bcondzRt0A _ _ => { mnemonic := "BCONDZ_RT0A", mask := 0xFC1F0000#32, value := 0x040A0000#32 }
  | .bcondzRt0B _ _ => { mnemonic := "BCONDZ_RT0B", mask := 0xFC1F0000#32, value := 0x040B0000#32 }
  | .bcondzRt0C _ _ => { mnemonic := "BCONDZ_RT0C", mask := 0xFC1F0000#32, value := 0x040C0000#32 }
  | .bcondzRt0D _ _ => { mnemonic := "BCONDZ_RT0D", mask := 0xFC1F0000#32, value := 0x040D0000#32 }
  | .bcondzRt0E _ _ => { mnemonic := "BCONDZ_RT0E", mask := 0xFC1F0000#32, value := 0x040E0000#32 }
  | .bcondzRt0F _ _ => { mnemonic := "BCONDZ_RT0F", mask := 0xFC1F0000#32, value := 0x040F0000#32 }
  | .bcondzRt12 _ _ => { mnemonic := "BCONDZ_RT12", mask := 0xFC1F0000#32, value := 0x04120000#32 }
  | .bcondzRt13 _ _ => { mnemonic := "BCONDZ_RT13", mask := 0xFC1F0000#32, value := 0x04130000#32 }
  | .bcondzRt14 _ _ => { mnemonic := "BCONDZ_RT14", mask := 0xFC1F0000#32, value := 0x04140000#32 }
  | .bcondzRt15 _ _ => { mnemonic := "BCONDZ_RT15", mask := 0xFC1F0000#32, value := 0x04150000#32 }
  | .bcondzRt16 _ _ => { mnemonic := "BCONDZ_RT16", mask := 0xFC1F0000#32, value := 0x04160000#32 }
  | .bcondzRt17 _ _ => { mnemonic := "BCONDZ_RT17", mask := 0xFC1F0000#32, value := 0x04170000#32 }
  | .bcondzRt18 _ _ => { mnemonic := "BCONDZ_RT18", mask := 0xFC1F0000#32, value := 0x04180000#32 }
  | .bcondzRt19 _ _ => { mnemonic := "BCONDZ_RT19", mask := 0xFC1F0000#32, value := 0x04190000#32 }
  | .bcondzRt1A _ _ => { mnemonic := "BCONDZ_RT1A", mask := 0xFC1F0000#32, value := 0x041A0000#32 }
  | .bcondzRt1B _ _ => { mnemonic := "BCONDZ_RT1B", mask := 0xFC1F0000#32, value := 0x041B0000#32 }
  | .bcondzRt1C _ _ => { mnemonic := "BCONDZ_RT1C", mask := 0xFC1F0000#32, value := 0x041C0000#32 }
  | .bcondzRt1D _ _ => { mnemonic := "BCONDZ_RT1D", mask := 0xFC1F0000#32, value := 0x041D0000#32 }
  | .bcondzRt1E _ _ => { mnemonic := "BCONDZ_RT1E", mask := 0xFC1F0000#32, value := 0x041E0000#32 }
  | .bcondzRt1F _ _ => { mnemonic := "BCONDZ_RT1F", mask := 0xFC1F0000#32, value := 0x041F0000#32 }
  | .cop0Generic _ => { mnemonic := "COP0_GENERIC", mask := 0xFE000000#32, value := 0x42000000#32, butNot := [(0xFE00003F#32, 0x42000010#32)] }
  | .cop0Rs01 => { mnemonic := "COP0_RS01", mask := 0xFFE00000#32, value := 0x40200000#32 }
  | .cop0Rs03 => { mnemonic := "COP0_RS03", mask := 0xFFE00000#32, value := 0x40600000#32 }
  | .cop0Rs05 => { mnemonic := "COP0_RS05", mask := 0xFFE00000#32, value := 0x40A00000#32 }
  | .cop0Rs07 => { mnemonic := "COP0_RS07", mask := 0xFFE00000#32, value := 0x40E00000#32 }
  | .cop0Rs09 => { mnemonic := "COP0_RS09", mask := 0xFFE00000#32, value := 0x41200000#32 }
  | .cop0Rs0A => { mnemonic := "COP0_RS0A", mask := 0xFFE00000#32, value := 0x41400000#32 }
  | .cop0Rs0B => { mnemonic := "COP0_RS0B", mask := 0xFFE00000#32, value := 0x41600000#32 }
  | .cop0Rs0C => { mnemonic := "COP0_RS0C", mask := 0xFFE00000#32, value := 0x41800000#32 }
  | .cop0Rs0D => { mnemonic := "COP0_RS0D", mask := 0xFFE00000#32, value := 0x41A00000#32 }
  | .cop0Rs0E => { mnemonic := "COP0_RS0E", mask := 0xFFE00000#32, value := 0x41C00000#32 }
  | .cop0Rs0F => { mnemonic := "COP0_RS0F", mask := 0xFFE00000#32, value := 0x41E00000#32 }
  | .cop0Rs08Other _ => { mnemonic := "COP0_RS08_OTHER", mask := 0xFFE00000#32, value := 0x41000000#32, butNot := [(0xFFFF0000#32, 0x41000000#32), (0xFFFF0000#32, 0x41010000#32)] }
  | .cop1 => { mnemonic := "COP1", mask := 0xFC000000#32, value := 0x44000000#32 }
  | .cop3 => { mnemonic := "COP3", mask := 0xFC000000#32, value := 0x4C000000#32 }
  | .lwc1 => { mnemonic := "LWC1", mask := 0xFC000000#32, value := 0xC4000000#32 }
  | .lwc3 => { mnemonic := "LWC3", mask := 0xFC000000#32, value := 0xCC000000#32 }
  | .swc1 => { mnemonic := "SWC1", mask := 0xFC000000#32, value := 0xE4000000#32 }
  | .swc3 => { mnemonic := "SWC3", mask := 0xFC000000#32, value := 0xEC000000#32 }
  | .cop2 => { mnemonic := "COP2", mask := 0xFC000000#32, value := 0x48000000#32 }
  | .lwc2 => { mnemonic := "LWC2", mask := 0xFC000000#32, value := 0xC8000000#32 }
  | .swc2 => { mnemonic := "SWC2", mask := 0xFC000000#32, value := 0xE8000000#32 }
  | .reservedOp14 => { mnemonic := "RESERVED_OP14", mask := 0xFC000000#32, value := 0x50000000#32 }
  | .reservedOp15 => { mnemonic := "RESERVED_OP15", mask := 0xFC000000#32, value := 0x54000000#32 }
  | .reservedOp16 => { mnemonic := "RESERVED_OP16", mask := 0xFC000000#32, value := 0x58000000#32 }
  | .reservedOp17 => { mnemonic := "RESERVED_OP17", mask := 0xFC000000#32, value := 0x5C000000#32 }
  | .reservedOp18 => { mnemonic := "RESERVED_OP18", mask := 0xFC000000#32, value := 0x60000000#32 }
  | .reservedOp19 => { mnemonic := "RESERVED_OP19", mask := 0xFC000000#32, value := 0x64000000#32 }
  | .reservedOp1A => { mnemonic := "RESERVED_OP1A", mask := 0xFC000000#32, value := 0x68000000#32 }
  | .reservedOp1B => { mnemonic := "RESERVED_OP1B", mask := 0xFC000000#32, value := 0x6C000000#32 }
  | .reservedOp1C => { mnemonic := "RESERVED_OP1C", mask := 0xFC000000#32, value := 0x70000000#32 }
  | .reservedOp1D => { mnemonic := "RESERVED_OP1D", mask := 0xFC000000#32, value := 0x74000000#32 }
  | .reservedOp1E => { mnemonic := "RESERVED_OP1E", mask := 0xFC000000#32, value := 0x78000000#32 }
  | .reservedOp1F => { mnemonic := "RESERVED_OP1F", mask := 0xFC000000#32, value := 0x7C000000#32 }
  | .reservedOp27 => { mnemonic := "RESERVED_OP27", mask := 0xFC000000#32, value := 0x9C000000#32 }
  | .reservedOp2C => { mnemonic := "RESERVED_OP2C", mask := 0xFC000000#32, value := 0xB0000000#32 }
  | .reservedOp2D => { mnemonic := "RESERVED_OP2D", mask := 0xFC000000#32, value := 0xB4000000#32 }
  | .reservedOp2F => { mnemonic := "RESERVED_OP2F", mask := 0xFC000000#32, value := 0xBC000000#32 }
  | .reservedOp34 => { mnemonic := "RESERVED_OP34", mask := 0xFC000000#32, value := 0xD0000000#32 }
  | .reservedOp35 => { mnemonic := "RESERVED_OP35", mask := 0xFC000000#32, value := 0xD4000000#32 }
  | .reservedOp36 => { mnemonic := "RESERVED_OP36", mask := 0xFC000000#32, value := 0xD8000000#32 }
  | .reservedOp37 => { mnemonic := "RESERVED_OP37", mask := 0xFC000000#32, value := 0xDC000000#32 }
  | .reservedOp3C => { mnemonic := "RESERVED_OP3C", mask := 0xFC000000#32, value := 0xF0000000#32 }
  | .reservedOp3D => { mnemonic := "RESERVED_OP3D", mask := 0xFC000000#32, value := 0xF4000000#32 }
  | .reservedOp3E => { mnemonic := "RESERVED_OP3E", mask := 0xFC000000#32, value := 0xF8000000#32 }
  | .reservedOp3F => { mnemonic := "RESERVED_OP3F", mask := 0xFC000000#32, value := 0xFC000000#32 }
  | .reservedFunct01 => { mnemonic := "RESERVED_FUNCT01", mask := 0xFC00003F#32, value := 0x00000001#32 }
  | .reservedFunct05 => { mnemonic := "RESERVED_FUNCT05", mask := 0xFC00003F#32, value := 0x00000005#32 }
  | .reservedFunct0A => { mnemonic := "RESERVED_FUNCT0A", mask := 0xFC00003F#32, value := 0x0000000A#32 }
  | .reservedFunct0B => { mnemonic := "RESERVED_FUNCT0B", mask := 0xFC00003F#32, value := 0x0000000B#32 }
  | .reservedFunct0E => { mnemonic := "RESERVED_FUNCT0E", mask := 0xFC00003F#32, value := 0x0000000E#32 }
  | .reservedFunct0F => { mnemonic := "RESERVED_FUNCT0F", mask := 0xFC00003F#32, value := 0x0000000F#32 }
  | .reservedFunct14 => { mnemonic := "RESERVED_FUNCT14", mask := 0xFC00003F#32, value := 0x00000014#32 }
  | .reservedFunct15 => { mnemonic := "RESERVED_FUNCT15", mask := 0xFC00003F#32, value := 0x00000015#32 }
  | .reservedFunct16 => { mnemonic := "RESERVED_FUNCT16", mask := 0xFC00003F#32, value := 0x00000016#32 }
  | .reservedFunct17 => { mnemonic := "RESERVED_FUNCT17", mask := 0xFC00003F#32, value := 0x00000017#32 }
  | .reservedFunct1C => { mnemonic := "RESERVED_FUNCT1C", mask := 0xFC00003F#32, value := 0x0000001C#32 }
  | .reservedFunct1D => { mnemonic := "RESERVED_FUNCT1D", mask := 0xFC00003F#32, value := 0x0000001D#32 }
  | .reservedFunct1E => { mnemonic := "RESERVED_FUNCT1E", mask := 0xFC00003F#32, value := 0x0000001E#32 }
  | .reservedFunct1F => { mnemonic := "RESERVED_FUNCT1F", mask := 0xFC00003F#32, value := 0x0000001F#32 }
  | .reservedFunct28 => { mnemonic := "RESERVED_FUNCT28", mask := 0xFC00003F#32, value := 0x00000028#32 }
  | .reservedFunct29 => { mnemonic := "RESERVED_FUNCT29", mask := 0xFC00003F#32, value := 0x00000029#32 }
  | .reservedFunct2C => { mnemonic := "RESERVED_FUNCT2C", mask := 0xFC00003F#32, value := 0x0000002C#32 }
  | .reservedFunct2D => { mnemonic := "RESERVED_FUNCT2D", mask := 0xFC00003F#32, value := 0x0000002D#32 }
  | .reservedFunct2E => { mnemonic := "RESERVED_FUNCT2E", mask := 0xFC00003F#32, value := 0x0000002E#32 }
  | .reservedFunct2F => { mnemonic := "RESERVED_FUNCT2F", mask := 0xFC00003F#32, value := 0x0000002F#32 }
  | .reservedFunct30 => { mnemonic := "RESERVED_FUNCT30", mask := 0xFC00003F#32, value := 0x00000030#32 }
  | .reservedFunct31 => { mnemonic := "RESERVED_FUNCT31", mask := 0xFC00003F#32, value := 0x00000031#32 }
  | .reservedFunct32 => { mnemonic := "RESERVED_FUNCT32", mask := 0xFC00003F#32, value := 0x00000032#32 }
  | .reservedFunct33 => { mnemonic := "RESERVED_FUNCT33", mask := 0xFC00003F#32, value := 0x00000033#32 }
  | .reservedFunct34 => { mnemonic := "RESERVED_FUNCT34", mask := 0xFC00003F#32, value := 0x00000034#32 }
  | .reservedFunct35 => { mnemonic := "RESERVED_FUNCT35", mask := 0xFC00003F#32, value := 0x00000035#32 }
  | .reservedFunct36 => { mnemonic := "RESERVED_FUNCT36", mask := 0xFC00003F#32, value := 0x00000036#32 }
  | .reservedFunct37 => { mnemonic := "RESERVED_FUNCT37", mask := 0xFC00003F#32, value := 0x00000037#32 }
  | .reservedFunct38 => { mnemonic := "RESERVED_FUNCT38", mask := 0xFC00003F#32, value := 0x00000038#32 }
  | .reservedFunct39 => { mnemonic := "RESERVED_FUNCT39", mask := 0xFC00003F#32, value := 0x00000039#32 }
  | .reservedFunct3A => { mnemonic := "RESERVED_FUNCT3A", mask := 0xFC00003F#32, value := 0x0000003A#32 }
  | .reservedFunct3B => { mnemonic := "RESERVED_FUNCT3B", mask := 0xFC00003F#32, value := 0x0000003B#32 }
  | .reservedFunct3C => { mnemonic := "RESERVED_FUNCT3C", mask := 0xFC00003F#32, value := 0x0000003C#32 }
  | .reservedFunct3D => { mnemonic := "RESERVED_FUNCT3D", mask := 0xFC00003F#32, value := 0x0000003D#32 }
  | .reservedFunct3E => { mnemonic := "RESERVED_FUNCT3E", mask := 0xFC00003F#32, value := 0x0000003E#32 }
  | .reservedFunct3F => { mnemonic := "RESERVED_FUNCT3F", mask := 0xFC00003F#32, value := 0x0000003F#32 }

end Sys2Proof
end

