-- ==== Sys2Proof/Machine/Fetch.lean ====
section
/-! DEFINITION. The start of a step: the interrupt check, the fetch check and the fetch (40_cycle.md R402-R404), and the
bytes of an instruction placed where the next fetch reads it. -/

namespace Sys2Proof.Machine

/-- `InterruptTaken()`: IEc = 1 and an enabled interrupt is pending (60_exceptions.md R1040). -/
def State.interruptTaken (s : State) : Bool :=
  Sr.iec s.cop0.sr && (Cause.ip s.cop0.cause &&& Sr.im s.cop0.sr) != 0#8

/-- The fetch check fails: a misaligned pc, or a kernel address in user mode (40_cycle.md R403, 60_exceptions.md R1062). -/
def State.fetchBlocked (s : State) : Bool := !isAligned .word s.pc || s.userBlocked s.pc

/-- The fetch: the word at `pc` through the router (40_cycle.md R404, 20_memory.md R201). -/
def State.fetched (s : State) : Word := (s.memRead s.pc .word).1

/-- The state after the fetch: `currentPc <- pc`, `pc <- pc + 4` (40_cycle.md R404). -/
def State.afterFetch (s : State) : State :=
  { (s.memRead s.pc .word).2 with currentPc := s.pc, pc := s.pc + 4#32 }

/-- The instruction the step executes. -/
def State.nextInstr (s : State) : Instr := decode s.fetched

/-- Put bytes at a physical address on from outside the core. -/
def Memory.placeAll (m : Memory) (c : Params) (p : Nat) : List Byte → Memory
  | [] => m
  | b :: rest => (m.place (placeOf c p) b).placeAll c (p + 1) rest

/-- The state with the bytes of an instruction at its fetch pointer. Device space holds no bytes, so a fetch pointer
there is first moved to the reset vector (entry 7). -/
def State.placeInstr (s : State) (bytes : List Byte) : State :=
  let pc := if route s.params (phys s.pc) = .device then Config.resetVector else s.pc
  { s with pc := pc, mem := s.mem.placeAll s.params (phys pc) bytes }

end Sys2Proof.Machine
end

