-- ==== Sys2Proof/Machine/Step.lean ====
section
/-! DEFINITION. One step of the execution core (40_cycle.md R400, R414). -/

namespace Sys2Proof.Machine

/-- The step: a state whose status is not running has none; else an interrupt, a fetch error, or the fetched instruction
(40_cycle.md R400, R402-R404, R414; 60_exceptions.md R1010). -/
def step (s : State) : Host.Outcome State Fault Refusal :=
  match s.status with
  | .refused r => .refused r
  | .faulted f => .fault f
  | .running =>
    if s.interruptTaken then .next (s.takeException .int s.pc)
    else if s.fetchBlocked then .next (s.takeException (.adEL s.pc) s.pc)
    else exec s.nextInstr s.afterFetch

/-- `s` with an instruction stored where the next step fetches it (entry 7). -/
def State.withFetchWord (s : State) (nbits w : Nat) : State := s.placeInstr (tableBytes nbits w)

end Sys2Proof.Machine
end

