-- ==== Sys2Proof/Machine/HostActions.lean ====
section
/-! DEFINITION. What the host does between steps (70_reset_and_hazards.md sections 1 and 3). -/

namespace Sys2Proof.Machine

/-- Record a step's outcome in a state: the successor, or the state itself with its status marked (10_state.md R115). -/
def State.mark (s : State) : Host.Outcome State Fault Refusal → State
  | .next t => t
  | .fault f => { s with status := .faulted f }
  | .refused r => { s with status := .refused r }

/-- `Reset()` (70_reset_and_hazards.md R1100, R1102): the parameters and the BIOS image stay, CAUSE[15:10] is what the host
drives (10_state.md R160), and every value the spec draws takes the value `State.reset` names (entries 1, 2). The counter of
free values goes on (entry 4). -/
def State.resetAction (s : State) : State :=
  { State.reset with
    params := s.params
    draws := s.draws
    cop0 := { State.reset.cop0 with sr := s.params.srReset, cause := s.cop0.cause &&& 0xFC00#32 }
    mem := { State.reset.mem with bios := s.mem.bios } }

/-- `SetInterruptLines(l)`: CAUSE[15:10] <- l (60_exceptions.md R1041). -/
def State.setInterruptLines (s : State) (l : BitVec 6) : State :=
  s.setCop0 { s.cop0 with cause := Cause.setLines s.cop0.cause l }

/-- The little-endian word at an offset of a file; bytes past its end read as 0 (entry 8). -/
def fileWord (file : List Byte) (o : Nat) : Word :=
  wordOfBytes (file.getD o 0#8) (file.getD (o + 1) 0#8) (file.getD (o + 2) 0#8) (file.getD (o + 3) 0#8)

/-- The host copy: each byte to the place of its address; only RAM and scratchpad take it (R1120, entry 8). -/
def Memory.hostCopy (m : Memory) (c : Params) (a : Word) : List Byte → Memory
  | [] => m
  | b :: rest => (m.store false (placeOf c (phys a)) b).hostCopy c (a + 1#32) rest

/-- The GPRs `LoadExe` sets: $gp, and $sp and $fp when the file gives a stack base (R1120). -/
def State.loadRegs (s : State) (file : List Byte) : State :=
  let g := s.writeGpr 28 (fileWord file 0x14)
  if fileWord file 0x30 = 0#32 then g
  else (g.writeGpr 29 (fileWord file 0x30 + fileWord file 0x34)).writeGpr 30 (fileWord file 0x30 + fileWord file 0x34)

/-- `LoadExe(file)` (70_reset_and_hazards.md R1120). DESIGN CHOICE (entry 8), where the rule is silent: of the body of a file
shorter than 0x800 + w(0x1C) only the bytes it has are copied, and memory past them stays as it was. -/
def State.loadExe (s : State) (file : List Byte) : State :=
  { s.loadRegs file with
    mem := s.mem.hostCopy s.params (fileWord file 0x18) ((file.drop 0x800).take (fileWord file 0x1C).toNat)
    pc := fileWord file 0x10
    ld := { s.ld with pending := false }
    bd := { s.bd with pending := false }
    slot := false }

/-- The host's actions (70_reset_and_hazards.md R1121). `Stop` and `Inspect` have no effect on state (40_cycle.md R417). -/
inductive HostAction where
  | reset
  | loadExe (file : List Byte)
  | step
  | setInterruptLines (l : BitVec 6)
  | stop
  | inspect
  deriving DecidableEq, Repr

/-- What a host action does to the machine (70_reset_and_hazards.md R1121). -/
def State.act (s : State) : HostAction → State
  | .reset => s.resetAction
  | .loadExe file => s.loadExe file
  | .step => s.mark (Sys2Proof.Machine.step s)
  | .setInterruptLines l => s.setInterruptLines l
  | .stop => s
  | .inspect => s

end Sys2Proof.Machine
end

