-- ==== Sys2Proof/Safety.lean ====
section
/-! DEFINITION. The terms the claims use: what a step keeps, where it goes next, the groups of instructions the spec names,
and the invariant of the machine. -/

namespace Sys2Proof.Machine

/-! ### What a step keeps -/

/-- GPR r once the load of the previous step has arrived (40_cycle.md R407): what a step that writes no GPR leaves in it. -/
def State.arrived (s : State) (r : Reg) : Word :=
  if r = 0 then 0#32 else if s.ld.pending = true ∧ s.ld.reg = r then s.ld.value else s.x r

/-- Every byte of memory reads as before, and no device access was made. -/
def KeepsMemory (s t : State) : Prop := (∀ a : Word, t.byteAt a = s.byteAt a) ∧ t.events = s.events

/-- HI and LO are as before. -/
def KeepsHiLo (s t : State) : Prop := t.hi = s.hi ∧ t.lo = s.lo

/-- The COP0 bank is as before: SR, CAUSE, EPC, BadVaddr, PRID and the generic array. -/
def KeepsCop0 (s t : State) : Prop := t.cop0 = s.cop0

/-- The bookkeeping is as before: the executing address, the run status, the parameters. -/
def KeepsBook (s t : State) : Prop := t.currentPc = s.currentPc ∧ t.status = s.status ∧ t.params = s.params

/-- The COP0 registers but SR, CAUSE and the generic array are as before. -/
def KeepsEntryRegs (s t : State) : Prop :=
  t.cop0.epc = s.cop0.epc ∧ t.cop0.badVaddr = s.cop0.badVaddr ∧ t.cop0.prid = s.cop0.prid

/-- The step grew the HI/LO read age by one, up to 2 (40_cycle.md R411). -/
def Ages (s t : State) : Prop := t.hiloAge.val = min (s.hiloAge.val + 1) 2

/-! ### Registers after a step -/

/-- Register d holds v (0 if it is register 0), every other one what had arrived, and no load is pending. -/
def WritesReg (s t : State) (d : Reg) (v : Word) : Prop :=
  t.x d = (if d = 0 then 0#32 else v) ∧ (∀ r : Reg, r ≠ d → t.x r = s.arrived r) ∧ t.ld.pending = false

/-- No register was written: each holds what had arrived, and no load is pending. -/
def WritesNoReg (s t : State) : Prop := (∀ r : Reg, t.x r = s.arrived r) ∧ t.ld.pending = false

/-- A load of v into register d is pending; d still holds its old value (a load that was pending into it is discarded), and
every other register what had arrived. -/
def LoadsReg (s t : State) (d : Reg) (v : Word) : Prop :=
  t.ld = ⟨true, d, v⟩ ∧ t.x d = s.x d ∧ ∀ r : Reg, r ≠ d → t.x r = s.arrived r

/-! ### Where control goes -/

/-- No branch: the pc goes to the target of a branch that was pending, else stays at the next instruction; nothing is pending
and the next instruction is in no slot (40_cycle.md R412, R413). -/
def Falls (s t : State) : Prop :=
  t.pc = (if s.bd.pending then s.bd.target else s.pc) ∧ t.bd.pending = false ∧ t.slot = false

/-- A branch or jump, from a state with none pending: the pc stays at the delay slot, the target (if taken) is latched, and
the next instruction is in the slot (43_branch.md R701, 40_cycle.md R413). -/
def Branches (s t : State) (target : Option Word) : Prop :=
  t.pc = s.pc ∧ t.slot = true ∧
    match target with
    | some a => t.bd = ⟨true, a⟩
    | none => t.bd = s.bd

/-! ### Whole steps -/

/-- The instruction wrote register d and nothing else. -/
structure RegisterStep (s t : State) (d : Reg) (v : Word) : Prop where
  regs : WritesReg s t d v
  control : Falls s t
  age : Ages s t
  hilo : KeepsHiLo s t
  cop0 : KeepsCop0 s t
  memory : KeepsMemory s t
  book : KeepsBook s t
  draws : t.draws = s.draws

/-- The instruction wrote HI and LO and nothing else. -/
structure HiLoStep (s t : State) (h l : Word) : Prop where
  hi : t.hi = h
  lo : t.lo = l
  regs : WritesNoReg s t
  control : Falls s t
  age : Ages s t
  cop0 : KeepsCop0 s t
  memory : KeepsMemory s t
  book : KeepsBook s t
  draws : t.draws = s.draws

/-- The instruction wrote SR, CAUSE or the generic array as `c` says, and nothing else. -/
structure Cop0Step (s t : State) (c : Cop0) : Prop where
  bank : t.cop0 = c
  regs : WritesNoReg s t
  control : Falls s t
  age : Ages s t
  hilo : KeepsHiLo s t
  memory : KeepsMemory s t
  book : KeepsBook s t
  draws : t.draws = s.draws

/-- A branch or jump with its link write (none for those that do not link). -/
structure BranchStep (s t : State) (link : Option Reg) (target : Option Word) : Prop where
  regs : match link with
    | some d => WritesReg s t d (s.currentPc + 8#32)
    | none => WritesNoReg s t
  control : Branches s t target
  age : Ages s t
  hilo : KeepsHiLo s t
  cop0 : KeepsCop0 s t
  memory : KeepsMemory s t
  book : KeepsBook s t
  draws : t.draws = s.draws

/-- A load that reaches no device made v pending for register d and drew n free values, and did nothing else. -/
structure LoadStep (s t : State) (d : Reg) (v : Word) (n : Nat) : Prop where
  regs : LoadsReg s t d v
  control : Falls s t
  age : Ages s t
  hilo : KeepsHiLo s t
  cop0 : KeepsCop0 s t
  memory : KeepsMemory s t
  book : KeepsBook s t
  draws : t.draws = s.draws + n

/-- What a device read of a width at a would answer now, zero-extended (20_memory.md R230). -/
def State.deviceAnswer (s : State) (a : Word) (w : Width) : Word :=
  lowBytes w (Config.deviceRead s.draws (phys a) w.bytes)

/-- A load from device space made v pending for register d; the read was recorded, and it drew one free value. -/
structure DeviceLoadStep (s t : State) (d : Reg) (v : Word) (a : Word) (w : Width) : Prop where
  regs : LoadsReg s t d v
  control : Falls s t
  age : Ages s t
  hilo : KeepsHiLo s t
  cop0 : KeepsCop0 s t
  bytes : ∀ b : Word, t.byteAt b = s.byteAt b
  events : t.events = .read (phys a) w (s.deviceAnswer a w) :: s.events
  book : KeepsBook s t
  draws : t.draws = s.draws + 1

/-- What a store leaves but memory and the device history. -/
structure StoreStep (s t : State) : Prop where
  regs : WritesNoReg s t
  control : Falls s t
  age : Ages s t
  hilo : KeepsHiLo s t
  cop0 : KeepsCop0 s t
  book : KeepsBook s t

/-! ### Memory -/

/-- Two virtual addresses reach the same byte (through a mirror or a segment alias). -/
def State.sameByte (s : State) (a b : Word) : Prop := placeOf s.params (phys a) = placeOf s.params (phys b)

/-- The region a virtual address reaches. -/
def State.regionOf (s : State) (a : Word) : Region := route s.params (phys a)

/-- A store to the address now changes its byte: scratchpad always, RAM unless the cache is isolated (20_memory.md R222,
R223, R240). -/
def State.takesStores (s : State) (a : Word) : Bool :=
  match s.regionOf a with
  | .scratch => true
  | .ram => !Sr.isC s.cop0.sr
  | .bios => false
  | .device => false

/-- From s to t exactly the bytes at `a + k`, k below n and enabled by `on`, took byte k of `byte`, where they take stores;
every other byte reads as before. -/
def StoresBytes (s t : State) (a : Word) (n : Nat) (on : Nat → Bool) (byte : Nat → Byte) : Prop :=
  (∀ k, k < n → on k = true → s.takesStores (a + BitVec.ofNat 32 k) = true →
      t.byteAt (a + BitVec.ofNat 32 k) = some (byte k)) ∧
  (∀ k, k < n → on k = true → s.takesStores (a + BitVec.ofNat 32 k) = false →
      t.byteAt (a + BitVec.ofNat 32 k) = s.byteAt (a + BitVec.ofNat 32 k)) ∧
  (∀ b : Word, (∀ k, k < n → on k = true → ¬ s.sameByte b (a + BitVec.ofNat 32 k)) → t.byteAt b = s.byteAt b)

/-- The word whose four bytes stand at `a`, lowest address first. -/
def State.holdsWord (s : State) (a v : Word) : Prop :=
  ∀ k, k < 4 → s.byteAt (a + BitVec.ofNat 32 k) = some (byteOf v k)

/-- A whole store of a width: the bytes it stores, the device event it is where it reaches device space, and nothing else. -/
structure Stores (s t : State) (a : Word) (n : Nat) (on : Nat → Bool) (byte : Nat → Byte) (e : DeviceEvent) : Prop where
  rest : StoreStep s t
  bytes : StoresBytes s t a n on byte
  events : t.events = if s.regionOf a = .device then e :: s.events else s.events

/-- The halfword whose two bytes stand at `a`. -/
def State.holdsHalf (s : State) (a : Word) (v : BitVec 16) : Prop :=
  s.byteAt a = some (v.extractLsb' 0 8) ∧ s.byteAt (a + 1#32) = some (v.extractLsb' 8 8)

/-! ### The COP0 bank through its accessors -/

/-- What `Cop0Read(i)` shows, with `tar` the free value a read of TAR returns (10_state.md R130). -/
def Cop0.shown (c : Cop0) (tar : Word) (i : CopReg) : Word :=
  if i = 6 then tar
  else if i = 8 then c.badVaddr
  else if i = 12 then c.sr
  else if i = 13 then c.cause
  else if i = 14 then c.epc
  else if i = 15 then c.prid
  else c.gen[i.val]

/-- The bank after `Cop0Write(i, v)` (10_state.md R131). -/
def Cop0.written (c : Cop0) (i : CopReg) (v : Word) : Cop0 :=
  if i = 12 then { c with sr := v }
  else if i = 13 then { c with cause := (c.cause &&& ~~~0x00000300#32) ||| (v &&& 0x00000300#32) }
  else if i = 6 ∨ i = 8 ∨ i = 14 ∨ i = 15 then c
  else { c with gen := c.gen.set i.val v }

/-! ### When an instruction executes normally -/

/-- COP0 is usable: kernel mode, or CU0 set (45_system_cop.md R901). -/
def State.cop0Usable (s : State) : Prop := s.cop0.sr.getLsbD 1 = false ∨ s.cop0.sr.getLsbD 28 = true

/-- An access to the address is forbidden: user mode, bit 31 set (60_exceptions.md R1062). -/
def State.userForbidden (s : State) (a : Word) : Prop := s.cop0.sr.getLsbD 1 = true ∧ a.getLsbD 31 = true

/-- The HI/LO hazard holds: HILO_HAZARD = fault and an MFHI or MFLO in one of the two previous steps
(70_reset_and_hazards.md R1141). -/
def State.hazard (s : State) : Prop := s.params.hiloHazard = .fault ∧ s.hiloAge.val < 2

/-- Every word with `w &&& mask = value` decodes as `f` says. -/
def DecodesAs (mask value : Word) (f : Word → Instr) : Prop := ∀ w : Word, w &&& mask = value → decode w = f w

/-! ### Groups of instructions -/

/-- The BcondZ words with an even rt that is neither 0x00 nor 0x10 (43_branch.md R718). -/
def bcondzEven : List (Reg → BitVec 16 → Instr) :=
  [.bcondzRt02, .bcondzRt04, .bcondzRt06, .bcondzRt08, .bcondzRt0A, .bcondzRt0C, .bcondzRt0E,
   .bcondzRt12, .bcondzRt14, .bcondzRt16, .bcondzRt18, .bcondzRt1A, .bcondzRt1C, .bcondzRt1E]

/-- The BcondZ words with an odd rt that is neither 0x01 nor 0x11 (43_branch.md R718). -/
def bcondzOdd : List (Reg → BitVec 16 → Instr) :=
  [.bcondzRt03, .bcondzRt05, .bcondzRt07, .bcondzRt09, .bcondzRt0B, .bcondzRt0D, .bcondzRt0F,
   .bcondzRt13, .bcondzRt15, .bcondzRt17, .bcondzRt19, .bcondzRt1B, .bcondzRt1D, .bcondzRt1F]

/-- The reserved instructions: the reserved primary opcodes and SPECIAL functions (30_encoding.md R340). -/
def isReserved : Instr → Bool
  | .reservedOp14 | .reservedOp15 | .reservedOp16 | .reservedOp17 | .reservedOp18 | .reservedOp19
  | .reservedOp1A | .reservedOp1B | .reservedOp1C | .reservedOp1D | .reservedOp1E | .reservedOp1F
  | .reservedOp27 | .reservedOp2C | .reservedOp2D | .reservedOp2F | .reservedOp34 | .reservedOp35
  | .reservedOp36 | .reservedOp37 | .reservedOp3C | .reservedOp3D | .reservedOp3E | .reservedOp3F
  | .reservedFunct01 | .reservedFunct05 | .reservedFunct0A | .reservedFunct0B | .reservedFunct0E
  | .reservedFunct0F | .reservedFunct14 | .reservedFunct15 | .reservedFunct16 | .reservedFunct17
  | .reservedFunct1C | .reservedFunct1D | .reservedFunct1E | .reservedFunct1F | .reservedFunct28
  | .reservedFunct29 | .reservedFunct2C | .reservedFunct2D | .reservedFunct2E | .reservedFunct2F
  | .reservedFunct30 | .reservedFunct31 | .reservedFunct32 | .reservedFunct33 | .reservedFunct34
  | .reservedFunct35 | .reservedFunct36 | .reservedFunct37 | .reservedFunct38 | .reservedFunct39
  | .reservedFunct3A | .reservedFunct3B | .reservedFunct3C | .reservedFunct3D | .reservedFunct3E
  | .reservedFunct3F => true
  | _ => false

/-- The words of R340: a reserved primary opcode, or SPECIAL with a reserved function. -/
def reservedWord (w : Word) : Bool :=
  let op := (opField w).toNat
  let funct := (functField w).toNat
  (0x14 ≤ op && op ≤ 0x1F) || op == 0x27 || op == 0x2C || op == 0x2D || op == 0x2F || (0x34 ≤ op && op ≤ 0x37) ||
    (0x3C ≤ op && op ≤ 0x3F) ||
  (op == 0 && (funct == 0x01 || funct == 0x05 || funct == 0x0A || funct == 0x0B || funct == 0x0E || funct == 0x0F ||
    (0x14 ≤ funct && funct ≤ 0x17) || (0x1C ≤ funct && funct ≤ 0x1F) || funct == 0x28 || funct == 0x29 ||
    (0x2C ≤ funct && funct ≤ 0x3F)))

/-- The COP0 encodings the source does not name with a fixed rs (30_encoding.md R341). -/
def unnamedCop0Rs : List Instr :=
  [.cop0Rs01, .cop0Rs03, .cop0Rs05, .cop0Rs07, .cop0Rs09, .cop0Rs0A, .cop0Rs0B, .cop0Rs0C, .cop0Rs0D, .cop0Rs0E, .cop0Rs0F]

/-- The branches and jumps: any instruction of 43_branch.md (40_cycle.md R405, R413). -/
def isBranchOrJump : Instr → Bool
  | .beq .. | .bne .. | .blez .. | .bgtz .. | .bltz .. | .bgez .. | .bltzal .. | .bgezal ..
  | .j _ | .jal _ | .jr _ | .jalr ..
  | .bcondzRt02 .. | .bcondzRt03 .. | .bcondzRt04 .. | .bcondzRt05 .. | .bcondzRt06 .. | .bcondzRt07 ..
  | .bcondzRt08 .. | .bcondzRt09 .. | .bcondzRt0A .. | .bcondzRt0B .. | .bcondzRt0C .. | .bcondzRt0D ..
  | .bcondzRt0E .. | .bcondzRt0F .. | .bcondzRt12 .. | .bcondzRt13 .. | .bcondzRt14 .. | .bcondzRt15 ..
  | .bcondzRt16 .. | .bcondzRt17 .. | .bcondzRt18 .. | .bcondzRt19 .. | .bcondzRt1A .. | .bcondzRt1B ..
  | .bcondzRt1C .. | .bcondzRt1D .. | .bcondzRt1E .. | .bcondzRt1F .. => true
  | _ => false

/-- The COP0 instructions: op = 0x10, LWC0 and SWC0 (45_system_cop.md R900). -/
def isCop0Instr : Instr → Bool
  | .mfc0 .. | .mtc0 .. | .cfc0 .. | .ctc0 .. | .bc0f _ | .bc0t _ | .rfe | .cop0Generic _ | .lwc0 .. | .swc0 ..
  | .cop0Rs01 | .cop0Rs03 | .cop0Rs05 | .cop0Rs07 | .cop0Rs09 | .cop0Rs0A | .cop0Rs0B | .cop0Rs0C | .cop0Rs0D
  | .cop0Rs0E | .cop0Rs0F | .cop0Rs08Other _ => true
  | _ => false

/-- The unaligned loads, the only instructions that see a pending load (40_cycle.md R408). -/
def chainsLoads : Instr → Bool
  | .lwl .. | .lwr .. => true
  | _ => false

/-! ### Exceptions -/

/-- From s (with `ld`, `bd` and `slot` as the step began) the step to t took exception `code` with victim v: what
60_exceptions.md R1020 and 40_cycle.md R409 say of every exception. -/
structure Entered (s t : State) (code : BitVec 5) (v : Word) : Prop where
  status : t.cop0.sr.extractLsb' 0 6 = s.cop0.sr.extractLsb' 0 4 ++ 0#2
  statusRest : t.cop0.sr.extractLsb' 6 26 = s.cop0.sr.extractLsb' 6 26
  excCode : Cause.excCode t.cop0.cause = code
  branchDelay : Cause.bd t.cop0.cause = s.inDelaySlot
  causeLow : t.cop0.cause.extractLsb' 0 2 = s.cop0.cause.extractLsb' 0 2
  causeMid : t.cop0.cause.extractLsb' 7 21 = s.cop0.cause.extractLsb' 7 21
  causeHigh : t.cop0.cause.extractLsb' 30 1 = s.cop0.cause.extractLsb' 30 1
  epc : t.cop0.epc = if s.inDelaySlot then v - 4#32 else v
  pc : t.pc = if s.cop0.sr.getLsbD 22 then 0xBFC00180#32 else 0x80000080#32
  branch : t.bd.pending = false ∧ t.slot = false
  regs : WritesNoReg s t
  age : Ages s t
  hilo : KeepsHiLo s t
  other : t.cop0.prid = s.cop0.prid ∧ t.cop0.gen = s.cop0.gen
  memory : KeepsMemory s t
  book : KeepsBook s t

/-- The address error of an access to a, which then was not made. -/
def AddressError (s t : State) (code : BitVec 5) (a : Word) : Prop := Entered s t code s.currentPc ∧ t.cop0.badVaddr = a

/-- An exception that leaves BadVaddr alone. -/
def EnteredPlain (s t : State) (code : BitVec 5) (v : Word) : Prop :=
  Entered s t code v ∧ t.cop0.badVaddr = s.cop0.badVaddr

/-- Where COP0 is not usable the instruction raises CpU(0) and does nothing else (45_system_cop.md R901). -/
def ChecksCop0 (s : State) (i : Instr) : Prop :=
  ¬ s.cop0Usable → ∃ t, exec i s = .next t ∧ EnteredPlain s t 11#5 s.currentPc ∧ Cause.ce t.cop0.cause = 0#2

/-! ### The invariant -/

/-- What every reachable state has: memory in canonical form, register 0 zero, no branch pending outside a slot, and the
fixed processor id. -/
structure State.Inv (s : State) : Prop where
  memory : s.mem.wf
  zero : s.gpr[0] = 0#32
  slot : s.bd.pending = true → s.slot = true
  prid : s.cop0.prid = Config.pridValue

end Sys2Proof.Machine
end

