-- ==== Sys2Proof/Certificates/Slice0/Obligations.lean ====
section
/-! DEFINITION. The statements for the provers. -/

open Sys2Proof Sys2Proof.Machine

/-! ### Shifts and ALU -/

/-- R500-R505. Each shift writes its destination and nothing else; register shifts use the low five bits. -/
def Obligations.ShiftsWriteShiftedValue : Prop :=
  (DecodesAs 0xFC00003F#32 0x00000000#32 fun w => .sll (rdField w) (rtField w) (saField w)) ∧
  (DecodesAs 0xFC00003F#32 0x00000002#32 fun w => .srl (rdField w) (rtField w) (saField w)) ∧
  (DecodesAs 0xFC00003F#32 0x00000003#32 fun w => .sra (rdField w) (rtField w) (saField w)) ∧
  (DecodesAs 0xFC00003F#32 0x00000004#32 fun w => .sllv (rdField w) (rtField w) (rsField w)) ∧
  (DecodesAs 0xFC00003F#32 0x00000006#32 fun w => .srlv (rdField w) (rtField w) (rsField w)) ∧
  (DecodesAs 0xFC00003F#32 0x00000007#32 fun w => .srav (rdField w) (rtField w) (rsField w)) ∧
  ∀ (s : State) (rd rt rs : Reg) (sa : BitVec 5),
    (∃ t, exec (.sll rd rt sa) s = .next t ∧ RegisterStep s t rd (s.x rt <<< sa.toNat)) ∧
    (∃ t, exec (.srl rd rt sa) s = .next t ∧ RegisterStep s t rd (s.x rt >>> sa.toNat)) ∧
    (∃ t, exec (.sra rd rt sa) s = .next t ∧ RegisterStep s t rd ((s.x rt).sshiftRight sa.toNat)) ∧
    (∃ t, exec (.sllv rd rt rs) s = .next t ∧ RegisterStep s t rd (s.x rt <<< ((s.x rs).toNat % 32))) ∧
    (∃ t, exec (.srlv rd rt rs) s = .next t ∧ RegisterStep s t rd (s.x rt >>> ((s.x rs).toNat % 32))) ∧
    (∃ t, exec (.srav rd rt rs) s = .next t ∧ RegisterStep s t rd ((s.x rt).sshiftRight ((s.x rs).toNat % 32)))

/-- R511, R513-R519. The register ALU instructions that cannot trap. -/
def Obligations.RegisterAluWritesResult : Prop :=
  (DecodesAs 0xFC00003F#32 0x00000021#32 fun w => .addu (rdField w) (rsField w) (rtField w)) ∧
  (DecodesAs 0xFC00003F#32 0x00000023#32 fun w => .subu (rdField w) (rsField w) (rtField w)) ∧
  (DecodesAs 0xFC00003F#32 0x00000024#32 fun w => .and (rdField w) (rsField w) (rtField w)) ∧
  (DecodesAs 0xFC00003F#32 0x00000025#32 fun w => .or (rdField w) (rsField w) (rtField w)) ∧
  (DecodesAs 0xFC00003F#32 0x00000026#32 fun w => .xor (rdField w) (rsField w) (rtField w)) ∧
  (DecodesAs 0xFC00003F#32 0x00000027#32 fun w => .nor (rdField w) (rsField w) (rtField w)) ∧
  (DecodesAs 0xFC00003F#32 0x0000002A#32 fun w => .slt (rdField w) (rsField w) (rtField w)) ∧
  (DecodesAs 0xFC00003F#32 0x0000002B#32 fun w => .sltu (rdField w) (rsField w) (rtField w)) ∧
  ∀ (s : State) (rd rs rt : Reg),
    (∃ t, exec (.addu rd rs rt) s = .next t ∧ RegisterStep s t rd (s.x rs + s.x rt)) ∧
    (∃ t, exec (.subu rd rs rt) s = .next t ∧ RegisterStep s t rd (s.x rs - s.x rt)) ∧
    (∃ t, exec (.and rd rs rt) s = .next t ∧ RegisterStep s t rd (s.x rs &&& s.x rt)) ∧
    (∃ t, exec (.or rd rs rt) s = .next t ∧ RegisterStep s t rd (s.x rs ||| s.x rt)) ∧
    (∃ t, exec (.xor rd rs rt) s = .next t ∧ RegisterStep s t rd (s.x rs ^^^ s.x rt)) ∧
    (∃ t, exec (.nor rd rs rt) s = .next t ∧ RegisterStep s t rd (~~~(s.x rs ||| s.x rt))) ∧
    (∃ t, exec (.slt rd rs rt) s = .next t ∧
      RegisterStep s t rd (if (s.x rs).toInt < (s.x rt).toInt then 1#32 else 0#32)) ∧
    (∃ t, exec (.sltu rd rs rt) s = .next t ∧
      RegisterStep s t rd (if (s.x rs).toNat < (s.x rt).toNat then 1#32 else 0#32))

/-- R510, R512, R530 (with R520). ADD, SUB and ADDI write the exact sum or difference where it lies in the signed range, and
otherwise enter Ov with the destination unwritten. -/
def Obligations.SignedArithmeticTrapsExactlyOnOverflow : Prop :=
  (DecodesAs 0xFC00003F#32 0x00000020#32 fun w => .add (rdField w) (rsField w) (rtField w)) ∧
  (DecodesAs 0xFC00003F#32 0x00000022#32 fun w => .sub (rdField w) (rsField w) (rtField w)) ∧
  (DecodesAs 0xFC000000#32 0x20000000#32 fun w => .addi (rtField w) (rsField w) (immField w)) ∧
  ∀ (s : State) (rd rs rt : Reg) (imm : BitVec 16),
    (∀ n : Int, n = (s.x rs).toInt + (s.x rt).toInt →
      (-(2 ^ 31) ≤ n ∧ n < 2 ^ 31 →
        ∃ t, exec (.add rd rs rt) s = .next t ∧ RegisterStep s t rd (s.x rs + s.x rt) ∧ (s.x rs + s.x rt).toInt = n) ∧
      (¬ (-(2 ^ 31) ≤ n ∧ n < 2 ^ 31) →
        ∃ t, exec (.add rd rs rt) s = .next t ∧ EnteredPlain s t 12#5 s.currentPc)) ∧
    (∀ n : Int, n = (s.x rs).toInt - (s.x rt).toInt →
      (-(2 ^ 31) ≤ n ∧ n < 2 ^ 31 →
        ∃ t, exec (.sub rd rs rt) s = .next t ∧ RegisterStep s t rd (s.x rs - s.x rt) ∧ (s.x rs - s.x rt).toInt = n) ∧
      (¬ (-(2 ^ 31) ≤ n ∧ n < 2 ^ 31) →
        ∃ t, exec (.sub rd rs rt) s = .next t ∧ EnteredPlain s t 12#5 s.currentPc)) ∧
    (∀ n : Int, n = (s.x rs).toInt + imm.toInt →
      (-(2 ^ 31) ≤ n ∧ n < 2 ^ 31 →
        ∃ t, exec (.addi rt rs imm) s = .next t ∧ RegisterStep s t rt (s.x rs + imm.signExtend 32) ∧
          (s.x rs + imm.signExtend 32).toInt = n) ∧
      (¬ (-(2 ^ 31) ≤ n ∧ n < 2 ^ 31) →
        ∃ t, exec (.addi rt rs imm) s = .next t ∧ EnteredPlain s t 12#5 s.currentPc))

/-- R531-R537. The immediate ALU instructions that cannot trap. -/
def Obligations.ImmediateAluWritesResult : Prop :=
  (DecodesAs 0xFC000000#32 0x24000000#32 fun w => .addiu (rtField w) (rsField w) (immField w)) ∧
  (DecodesAs 0xFC000000#32 0x28000000#32 fun w => .slti (rtField w) (rsField w) (immField w)) ∧
  (DecodesAs 0xFC000000#32 0x2C000000#32 fun w => .sltiu (rtField w) (rsField w) (immField w)) ∧
  (DecodesAs 0xFC000000#32 0x30000000#32 fun w => .andi (rtField w) (rsField w) (immField w)) ∧
  (DecodesAs 0xFC000000#32 0x34000000#32 fun w => .ori (rtField w) (rsField w) (immField w)) ∧
  (DecodesAs 0xFC000000#32 0x38000000#32 fun w => .xori (rtField w) (rsField w) (immField w)) ∧
  (DecodesAs 0xFC000000#32 0x3C000000#32 fun w => .lui (rtField w) (immField w)) ∧
  ∀ (s : State) (rt rs : Reg) (imm : BitVec 16),
    (∃ t, exec (.addiu rt rs imm) s = .next t ∧ RegisterStep s t rt (s.x rs + imm.signExtend 32)) ∧
    (∃ t, exec (.slti rt rs imm) s = .next t ∧
      RegisterStep s t rt (if (s.x rs).toInt < imm.toInt then 1#32 else 0#32)) ∧
    (∃ t, exec (.sltiu rt rs imm) s = .next t ∧
      RegisterStep s t rt (if (s.x rs).toNat < (imm.signExtend 32).toNat then 1#32 else 0#32)) ∧
    (∃ t, exec (.andi rt rs imm) s = .next t ∧ RegisterStep s t rt (s.x rs &&& (0#16 ++ imm))) ∧
    (∃ t, exec (.ori rt rs imm) s = .next t ∧ RegisterStep s t rt (s.x rs ||| (0#16 ++ imm))) ∧
    (∃ t, exec (.xori rt rs imm) s = .next t ∧ RegisterStep s t rt (s.x rs ^^^ (0#16 ++ imm))) ∧
    (∃ t, exec (.lui rt imm) s = .next t ∧ RegisterStep s t rt (imm ++ 0#16))

/-! ### Multiply, divide, HI and LO -/

/-- R600, R601. HI and LO together hold the exact 64-bit product; the hazard check comes first. -/
def Obligations.MultiplyIsExact : Prop :=
  (DecodesAs 0xFC00003F#32 0x00000018#32 fun w => .mult (rsField w) (rtField w)) ∧
  (DecodesAs 0xFC00003F#32 0x00000019#32 fun w => .multu (rsField w) (rtField w)) ∧
  ∀ (s : State) (rs rt : Reg),
    (s.hazard → exec (.mult rs rt) s = .fault .hiloHazard ∧ exec (.multu rs rt) s = .fault .hiloHazard) ∧
    (¬ s.hazard →
      (∃ t, exec (.mult rs rt) s = .next t ∧ HiLoStep s t t.hi t.lo ∧
        (t.hi ++ t.lo).toInt = (s.x rs).toInt * (s.x rt).toInt) ∧
      (∃ t, exec (.multu rs rt) s = .next t ∧ HiLoStep s t t.hi t.lo ∧
        (t.hi ++ t.lo).toNat = (s.x rs).toNat * (s.x rt).toNat))

/-- R602, R603. Quotient and remainder, truncated toward zero, with the special cases; nothing traps. -/
def Obligations.DivideGivesQuotientAndRemainder : Prop :=
  (DecodesAs 0xFC00003F#32 0x0000001A#32 fun w => .div (rsField w) (rtField w)) ∧
  (DecodesAs 0xFC00003F#32 0x0000001B#32 fun w => .divu (rsField w) (rtField w)) ∧
  ∀ (s : State) (rs rt : Reg),
    (s.hazard → exec (.div rs rt) s = .fault .hiloHazard ∧ exec (.divu rs rt) s = .fault .hiloHazard) ∧
    (¬ s.hazard →
      (∃ t, exec (.div rs rt) s = .next t ∧ HiLoStep s t t.hi t.lo ∧
        (s.x rt = 0#32 → t.hi = s.x rs ∧ t.lo = if 0 ≤ (s.x rs).toInt then 0xFFFFFFFF#32 else 0x00000001#32) ∧
        (s.x rs = 0x80000000#32 → s.x rt = 0xFFFFFFFF#32 → t.lo = 0x80000000#32 ∧ t.hi = 0#32) ∧
        (s.x rt ≠ 0#32 → ¬ (s.x rs = 0x80000000#32 ∧ s.x rt = 0xFFFFFFFF#32) →
          t.lo.toInt = (s.x rs).toInt.tdiv (s.x rt).toInt ∧ t.hi.toInt = (s.x rs).toInt.tmod (s.x rt).toInt)) ∧
      (∃ t, exec (.divu rs rt) s = .next t ∧ HiLoStep s t t.hi t.lo ∧
        (s.x rt = 0#32 → t.hi = s.x rs ∧ t.lo = 0xFFFFFFFF#32) ∧
        (s.x rt ≠ 0#32 → t.lo.toNat = (s.x rs).toNat / (s.x rt).toNat ∧ t.hi.toNat = (s.x rs).toNat % (s.x rt).toNat)))

/-- R605-R608. The HI/LO moves; MFHI and MFLO start the read age again. -/
def Obligations.HiLoMovesTransfer : Prop :=
  (DecodesAs 0xFC00003F#32 0x00000010#32 fun w => .mfhi (rdField w)) ∧
  (DecodesAs 0xFC00003F#32 0x00000012#32 fun w => .mflo (rdField w)) ∧
  (DecodesAs 0xFC00003F#32 0x00000011#32 fun w => .mthi (rsField w)) ∧
  (DecodesAs 0xFC00003F#32 0x00000013#32 fun w => .mtlo (rsField w)) ∧
  ∀ (s : State) (rd rs : Reg),
    (∃ t, exec (.mfhi rd) s = .next t ∧ WritesReg s t rd s.hi ∧ Falls s t ∧ t.hiloAge = 0 ∧ KeepsHiLo s t ∧
      KeepsCop0 s t ∧ KeepsMemory s t ∧ KeepsBook s t ∧ t.draws = s.draws) ∧
    (∃ t, exec (.mflo rd) s = .next t ∧ WritesReg s t rd s.lo ∧ Falls s t ∧ t.hiloAge = 0 ∧ KeepsHiLo s t ∧
      KeepsCop0 s t ∧ KeepsMemory s t ∧ KeepsBook s t ∧ t.draws = s.draws) ∧
    (s.hazard → exec (.mthi rs) s = .fault .hiloHazard ∧ exec (.mtlo rs) s = .fault .hiloHazard) ∧
    (¬ s.hazard →
      (∃ t, exec (.mthi rs) s = .next t ∧ HiLoStep s t (s.x rs) s.lo) ∧
      (∃ t, exec (.mtlo rs) s = .next t ∧ HiLoStep s t s.hi (s.x rs)))

/-- R1141. The hazard fault is raised by the six instructions that write HI or LO, exactly when HILO_HAZARD = fault and
the read age is below 2, and by no other instruction. -/
def Obligations.HiLoHazardFaultsExactly : Prop :=
  ∀ (i : Instr) (s : State), exec i s = .fault .hiloHazard ↔
    s.params.hiloHazard = .fault ∧ s.hiloAge.val < 2 ∧
      ((∃ rs rt, i = .mult rs rt ∨ i = .multu rs rt ∨ i = .div rs rt ∨ i = .divu rs rt) ∨
       ∃ rs, i = .mthi rs ∨ i = .mtlo rs)

/-- R411. The HI/LO read age after every step: 0 after an MFHI or MFLO, else one more, at most 2. -/
def Obligations.HiLoAgeCountsSteps : Prop :=
  ∀ s t : State, step s = .next t →
    ((s.interruptTaken = false ∧ s.fetchBlocked = false ∧ ∃ rd, s.nextInstr = .mfhi rd ∨ s.nextInstr = .mflo rd) →
      t.hiloAge = 0) ∧
    (¬ (s.interruptTaken = false ∧ s.fetchBlocked = false ∧ ∃ rd, s.nextInstr = .mfhi rd ∨ s.nextInstr = .mflo rd) →
      t.hiloAge.val = min (s.hiloAge.val + 1) 2)

/-! ### Branches and jumps -/

/-- R700, R701, R710-R715. A conditional branch outside a slot latches its target when its condition holds and nothing
otherwise; either way the delay slot comes next. -/
def Obligations.ConditionalBranchesLatchTarget : Prop :=
  (DecodesAs 0xFC000000#32 0x10000000#32 fun w => .beq (rsField w) (rtField w) (immField w)) ∧
  (DecodesAs 0xFC000000#32 0x14000000#32 fun w => .bne (rsField w) (rtField w) (immField w)) ∧
  (DecodesAs 0xFC000000#32 0x18000000#32 fun w => .blez (rsField w) (immField w)) ∧
  (DecodesAs 0xFC000000#32 0x1C000000#32 fun w => .bgtz (rsField w) (immField w)) ∧
  (DecodesAs 0xFC1F0000#32 0x04000000#32 fun w => .bltz (rsField w) (immField w)) ∧
  (DecodesAs 0xFC1F0000#32 0x04010000#32 fun w => .bgez (rsField w) (immField w)) ∧
  ∀ (s : State) (rs rt : Reg) (imm : BitVec 16) (target : Word), s.slot = false → s.bd.pending = false →
    target = s.pc + (imm.signExtend 32 <<< 2) →
    (∃ t, exec (.beq rs rt imm) s = .next t ∧ BranchStep s t none (if s.x rs = s.x rt then some target else none)) ∧
    (∃ t, exec (.bne rs rt imm) s = .next t ∧ BranchStep s t none (if s.x rs ≠ s.x rt then some target else none)) ∧
    (∃ t, exec (.blez rs imm) s = .next t ∧ BranchStep s t none (if (s.x rs).toInt ≤ 0 then some target else none)) ∧
    (∃ t, exec (.bgtz rs imm) s = .next t ∧ BranchStep s t none (if 0 < (s.x rs).toInt then some target else none)) ∧
    (∃ t, exec (.bltz rs imm) s = .next t ∧ BranchStep s t none (if (s.x rs).toInt < 0 then some target else none)) ∧
    (∃ t, exec (.bgez rs imm) s = .next t ∧ BranchStep s t none (if 0 ≤ (s.x rs).toInt then some target else none)) ∧
    (s.pc.toNat % 4 = 0 → target.toNat % 4 = 0)

/-- R716, R717 (with R702). The conditional linking branches test the old register and write r31 whether taken or not. -/
def Obligations.LinkingBranchesAlwaysLink : Prop :=
  (DecodesAs 0xFC1F0000#32 0x04100000#32 fun w => .bltzal (rsField w) (immField w)) ∧
  (DecodesAs 0xFC1F0000#32 0x04110000#32 fun w => .bgezal (rsField w) (immField w)) ∧
  ∀ (s : State) (rs : Reg) (imm : BitVec 16) (target : Word), s.slot = false → s.bd.pending = false →
    target = s.pc + (imm.signExtend 32 <<< 2) →
    (∃ t, exec (.bltzal rs imm) s = .next t ∧
      BranchStep s t (some 31) (if (s.x rs).toInt < 0 then some target else none)) ∧
    (∃ t, exec (.bgezal rs imm) s = .next t ∧
      BranchStep s t (some 31) (if 0 ≤ (s.x rs).toInt then some target else none))

/-- R714, R715, R718. A BcondZ word with any other rt acts as BLTZ (rt even) or BGEZ (rt odd), without link. -/
def Obligations.OtherBcondzActAsBltzOrBgez : Prop :=
  (DecodesAs 0xFC1F0000#32 0x04000000#32 fun w => .bltz (rsField w) (immField w)) ∧
  (DecodesAs 0xFC1F0000#32 0x04010000#32 fun w => .bgez (rsField w) (immField w)) ∧
  (∀ (w : Word) (s : State), opField w = 1#6 → rtBits w ≠ 0x00#5 → rtBits w ≠ 0x01#5 → rtBits w ≠ 0x10#5 →
    rtBits w ≠ 0x11#5 →
    exec (decode w) s =
      exec (if (rtBits w).getLsbD 0 then .bgez (rsField w) (immField w) else .bltz (rsField w) (immField w)) s) ∧
  ∀ (s : State) (rs : Reg) (imm : BitVec 16) (target : Word), s.slot = false → s.bd.pending = false →
    target = s.pc + (imm.signExtend 32 <<< 2) →
    (∀ c ∈ Instr.bltz :: bcondzEven, ∃ t, exec (c rs imm) s = .next t ∧
      BranchStep s t none (if (s.x rs).toInt < 0 then some target else none)) ∧
    (∀ c ∈ Instr.bgez :: bcondzOdd, ∃ t, exec (c rs imm) s = .next t ∧
      BranchStep s t none (if 0 ≤ (s.x rs).toInt then some target else none))

/-- R720-R723. The jumps latch their target; JAL links in r31, JALR in rd, and JALR reads rs before it links. A target that may
not be fetched raises AdEL where it is fetched, not at the jump. -/
def Obligations.JumpsLatchTarget : Prop :=
  (DecodesAs 0xFC000000#32 0x08000000#32 fun w => .j (targetField w)) ∧
  (DecodesAs 0xFC000000#32 0x0C000000#32 fun w => .jal (targetField w)) ∧
  (DecodesAs 0xFC00003F#32 0x00000008#32 fun w => .jr (rsField w)) ∧
  (DecodesAs 0xFC00003F#32 0x00000009#32 fun w => .jalr (rdField w) (rsField w)) ∧
  ∀ (s : State) (rs rd : Reg) (target : BitVec 26), s.slot = false → s.bd.pending = false →
    (∃ t, exec (.j target) s = .next t ∧ BranchStep s t none (some (s.pc.extractLsb' 28 4 ++ target ++ 0#2))) ∧
    (∃ t, exec (.jal target) s = .next t ∧ BranchStep s t (some 31) (some (s.pc.extractLsb' 28 4 ++ target ++ 0#2))) ∧
    (∃ t, exec (.jr rs) s = .next t ∧ BranchStep s t none (some (s.x rs))) ∧
    (∃ t, exec (.jalr rd rs) s = .next t ∧ BranchStep s t (some rd) (some (s.x rs))) ∧
    (∀ u : State, u.status = .running → u.interruptTaken = false → u.pc.toNat % 4 ≠ 0 ∨ u.userForbidden u.pc →
      ∃ t, step u = .next t ∧ Entered u t 4#5 u.pc ∧ t.cop0.badVaddr = u.pc)

/-- R405. A step is refused for a branch in a delay slot exactly when it executes a branch or jump and the previous step
executed one. -/
def Obligations.BranchInSlotIsRefused : Prop :=
  ∀ (i : Instr) (s : State), exec i s = .refused .branchInDelaySlot ↔ isBranchOrJump i = true ∧ s.slot = true

/-- R412, R105 (P2). A step that began with a branch pending ends at its target; one that did not ends at the next word;
and one that took an exception ends at the vector with nothing pending. -/
def Obligations.ControlFollowsBranchLatch : Prop :=
  ∀ s t : State, s.Inv → step s = .next t →
    (t.pc = (if s.bd.pending then s.bd.target else s.pc + 4#32) ∧ (s.bd.pending = true → t.bd.pending = false)) ∨
    (t.pc = (if s.cop0.sr.getLsbD 22 then 0xBFC00180#32 else 0x80000080#32) ∧ t.bd.pending = false ∧ t.slot = false ∧
      t.cop0.epc = if s.inDelaySlot then s.pc - 4#32 else s.pc)

/-! ### Loads and stores -/

/-- R810-R814. The aligned loads: from RAM, scratchpad or BIOS the bytes that stand at the address; from device space whatever
the oracle answers (a free value, entry 4), recorded once with its width; and AdEL where the address is misaligned or
forbidden. -/
def Obligations.AlignedLoadsReadMemory : Prop :=
  (DecodesAs 0xFC000000#32 0x80000000#32 fun w => .lb (rtField w) (rsField w) (immField w)) ∧
  (DecodesAs 0xFC000000#32 0x90000000#32 fun w => .lbu (rtField w) (rsField w) (immField w)) ∧
  (DecodesAs 0xFC000000#32 0x84000000#32 fun w => .lh (rtField w) (rsField w) (immField w)) ∧
  (DecodesAs 0xFC000000#32 0x94000000#32 fun w => .lhu (rtField w) (rsField w) (immField w)) ∧
  (DecodesAs 0xFC000000#32 0x8C000000#32 fun w => .lw (rtField w) (rsField w) (immField w)) ∧
  ∀ (s : State) (rt rs : Reg) (imm : BitVec 16) (ea : Word), ea = s.x rs + imm.signExtend 32 →
    (¬ s.userForbidden ea →
      (∀ b : Byte, s.byteAt ea = some b →
        (∃ t, exec (.lb rt rs imm) s = .next t ∧ LoadStep s t rt (b.signExtend 32) 0) ∧
        (∃ t, exec (.lbu rt rs imm) s = .next t ∧ LoadStep s t rt (0#24 ++ b) 0)) ∧
      (∀ v : BitVec 16, ea.toNat % 2 = 0 → s.holdsHalf ea v →
        (∃ t, exec (.lh rt rs imm) s = .next t ∧ LoadStep s t rt (v.signExtend 32) 0) ∧
        (∃ t, exec (.lhu rt rs imm) s = .next t ∧ LoadStep s t rt (0#16 ++ v) 0)) ∧
      (∀ v : Word, ea.toNat % 4 = 0 → s.holdsWord ea v →
        ∃ t, exec (.lw rt rs imm) s = .next t ∧ LoadStep s t rt v 0)) ∧
    (¬ s.userForbidden ea → s.regionOf ea = .device →
      (∃ t, exec (.lb rt rs imm) s = .next t ∧
        DeviceLoadStep s t rt (((s.deviceAnswer ea .byte).extractLsb' 0 8).signExtend 32) ea .byte) ∧
      (∃ t, exec (.lbu rt rs imm) s = .next t ∧ DeviceLoadStep s t rt (s.deviceAnswer ea .byte) ea .byte) ∧
      (ea.toNat % 2 = 0 →
        (∃ t, exec (.lh rt rs imm) s = .next t ∧
          DeviceLoadStep s t rt (((s.deviceAnswer ea .half).extractLsb' 0 16).signExtend 32) ea .half) ∧
        (∃ t, exec (.lhu rt rs imm) s = .next t ∧ DeviceLoadStep s t rt (s.deviceAnswer ea .half) ea .half)) ∧
      (ea.toNat % 4 = 0 →
        ∃ t, exec (.lw rt rs imm) s = .next t ∧ DeviceLoadStep s t rt (s.deviceAnswer ea .word) ea .word)) ∧
    (s.userForbidden ea → ∀ i ∈ [Instr.lb rt rs imm, .lbu rt rs imm], ∃ t, exec i s = .next t ∧ AddressError s t 4#5 ea) ∧
    (ea.toNat % 2 ≠ 0 ∨ s.userForbidden ea → ∀ i ∈ [Instr.lh rt rs imm, .lhu rt rs imm],
      ∃ t, exec i s = .next t ∧ AddressError s t 4#5 ea) ∧
    (ea.toNat % 4 ≠ 0 ∨ s.userForbidden ea → ∃ t, exec (.lw rt rs imm) s = .next t ∧ AddressError s t 4#5 ea)

/-- R830-R832. LWL and LWR merge the aligned word into the pending load of the same register, else into the register; AdEL by the
user-mode check only. -/
def Obligations.UnalignedLoadsMerge : Prop :=
  (DecodesAs 0xFC000000#32 0x88000000#32 fun w => .lwl (rtField w) (rsField w) (immField w)) ∧
  (DecodesAs 0xFC000000#32 0x98000000#32 fun w => .lwr (rtField w) (rsField w) (immField w)) ∧
  ∀ (s : State) (rt rs : Reg) (imm : BitVec 16) (ea cur w l r : Word), ea = s.x rs + imm.signExtend 32 →
    cur = (if s.ld.pending = true ∧ s.ld.reg = rt then s.ld.value else s.x rt) →
    l = (if ea.extractLsb' 0 2 = 0#2 then (cur &&& 0x00FFFFFF#32) ||| (w <<< 24)
      else if ea.extractLsb' 0 2 = 1#2 then (cur &&& 0x0000FFFF#32) ||| (w <<< 16)
      else if ea.extractLsb' 0 2 = 2#2 then (cur &&& 0x000000FF#32) ||| (w <<< 8)
      else w) →
    r = (if ea.extractLsb' 0 2 = 0#2 then w
      else if ea.extractLsb' 0 2 = 1#2 then (cur &&& 0xFF000000#32) ||| (w >>> 8)
      else if ea.extractLsb' 0 2 = 2#2 then (cur &&& 0xFFFF0000#32) ||| (w >>> 16)
      else (cur &&& 0xFFFFFF00#32) ||| (w >>> 24)) →
    (s.userForbidden ea → ∀ i ∈ [Instr.lwl rt rs imm, .lwr rt rs imm], ∃ t, exec i s = .next t ∧ AddressError s t 4#5 ea) ∧
    (¬ s.userForbidden ea → s.holdsWord (ea &&& 0xFFFFFFFC#32) w →
      (∃ t, exec (.lwl rt rs imm) s = .next t ∧ LoadStep s t rt l 0) ∧
      (∃ t, exec (.lwr rt rs imm) s = .next t ∧ LoadStep s t rt r 0)) ∧
    (¬ s.userForbidden ea → s.regionOf (ea &&& 0xFFFFFFFC#32) = .device → w = s.deviceAnswer (ea &&& 0xFFFFFFFC#32) .word →
      (∃ t, exec (.lwl rt rs imm) s = .next t ∧ DeviceLoadStep s t rt l (ea &&& 0xFFFFFFFC#32) .word) ∧
      (∃ t, exec (.lwr rt rs imm) s = .next t ∧ DeviceLoadStep s t rt r (ea &&& 0xFFFFFFFC#32) .word))

/-- R832's idiom: LWR at an address and then LWL three bytes on, into one register, leave the little-endian word that
stands at that address pending, however it is aligned. -/
def Obligations.LwrThenLwlLoadsUnalignedWord : Prop :=
  ∀ (s : State) (rt rs : Reg) (imm imm3 : BitVec 16) (ea w : Word), s.params.wf → s.ld.pending = false →
    ea = s.x rs + imm.signExtend 32 → imm3.signExtend 32 = imm.signExtend 32 + 3#32 →
    ¬ s.userForbidden ea → ¬ s.userForbidden (ea + 3#32) → s.holdsWord ea w →
    ∃ t u, exec (.lwr rt rs imm) s = .next t ∧
      exec (.lwl rt rs imm3) { t with currentPc := t.pc, pc := t.pc + 4#32 } = .next u ∧ u.ld = ⟨true, rt, w⟩

/-- R840-R842. The aligned stores change exactly their bytes, where those take stores, or are one device write; AdES where the
address is misaligned or forbidden. -/
def Obligations.AlignedStoresWriteBytes : Prop :=
  (DecodesAs 0xFC000000#32 0xA0000000#32 fun w => .sb (rtField w) (rsField w) (immField w)) ∧
  (DecodesAs 0xFC000000#32 0xA4000000#32 fun w => .sh (rtField w) (rsField w) (immField w)) ∧
  (DecodesAs 0xFC000000#32 0xAC000000#32 fun w => .sw (rtField w) (rsField w) (immField w)) ∧
  ∀ (s : State) (rt rs : Reg) (imm : BitVec 16) (ea : Word), s.params.wf → s.mem.wf →
    ea = s.x rs + imm.signExtend 32 →
    (s.userForbidden ea → ∃ t, exec (.sb rt rs imm) s = .next t ∧ AddressError s t 5#5 ea) ∧
    (ea.toNat % 2 ≠ 0 ∨ s.userForbidden ea → ∃ t, exec (.sh rt rs imm) s = .next t ∧ AddressError s t 5#5 ea) ∧
    (ea.toNat % 4 ≠ 0 ∨ s.userForbidden ea → ∃ t, exec (.sw rt rs imm) s = .next t ∧ AddressError s t 5#5 ea) ∧
    (¬ s.userForbidden ea → ∃ t, exec (.sb rt rs imm) s = .next t ∧ t.draws = s.draws ∧
      Stores s t ea 1 (fun _ => true) (byteOf (s.x rt)) (.write (phys ea) .byte (s.x rt &&& 0x000000FF#32))) ∧
    (¬ s.userForbidden ea → ea.toNat % 2 = 0 → ∃ t, exec (.sh rt rs imm) s = .next t ∧ t.draws = s.draws ∧
      Stores s t ea 2 (fun _ => true) (byteOf (s.x rt)) (.write (phys ea) .half (s.x rt &&& 0x0000FFFF#32))) ∧
    (¬ s.userForbidden ea → ea.toNat % 4 = 0 → ∃ t, exec (.sw rt rs imm) s = .next t ∧ t.draws = s.draws ∧
      Stores s t ea 4 (fun _ => true) (byteOf (s.x rt)) (.write (phys ea) .word (s.x rt)))

/-- R850, R851. SWL and SWR make one masked write of the aligned word, with the shifted register and the byte enables the
low address bits select; AdES by the user-mode check only. -/
def Obligations.UnalignedStoresWriteMaskedBytes : Prop :=
  (DecodesAs 0xFC000000#32 0xA8000000#32 fun w => .swl (rtField w) (rsField w) (immField w)) ∧
  (DecodesAs 0xFC000000#32 0xB8000000#32 fun w => .swr (rtField w) (rsField w) (immField w)) ∧
  ∀ (s : State) (rt rs : Reg) (imm : BitVec 16) (ea a : Word) (l r : Word × BitVec 4), s.params.wf → s.mem.wf →
    ea = s.x rs + imm.signExtend 32 → a = ea &&& 0xFFFFFFFC#32 →
    l = (if ea.extractLsb' 0 2 = 0#2 then (s.x rt >>> 24, 0b0001#4)
      else if ea.extractLsb' 0 2 = 1#2 then (s.x rt >>> 16, 0b0011#4)
      else if ea.extractLsb' 0 2 = 2#2 then (s.x rt >>> 8, 0b0111#4)
      else (s.x rt, 0b1111#4)) →
    r = (if ea.extractLsb' 0 2 = 0#2 then (s.x rt, 0b1111#4)
      else if ea.extractLsb' 0 2 = 1#2 then (s.x rt <<< 8, 0b1110#4)
      else if ea.extractLsb' 0 2 = 2#2 then (s.x rt <<< 16, 0b1100#4)
      else (s.x rt <<< 24, 0b1000#4)) →
    (s.userForbidden ea → ∀ i ∈ [Instr.swl rt rs imm, .swr rt rs imm], ∃ t, exec i s = .next t ∧ AddressError s t 5#5 ea) ∧
    (¬ s.userForbidden ea → ∃ t, exec (.swl rt rs imm) s = .next t ∧ t.draws = s.draws ∧
      Stores s t a 4 (fun k => l.2.getLsbD k) (byteOf l.1) (.writeMasked (phys a) l.1 l.2)) ∧
    (¬ s.userForbidden ea → ∃ t, exec (.swr rt rs imm) s = .next t ∧ t.draws = s.draws ∧
      Stores s t a 4 (fun k => r.2.getLsbD k) (byteOf r.1) (.writeMasked (phys a) r.1 r.2))

/-- R801, R250, R1062. A misaligned or forbidden address: AdEL for loads, AdES for stores, with the address itself in
BadVaddr, no access made and no load pending. -/
def Obligations.AddressErrorsBlockTheAccess : Prop :=
  ∀ (s : State) (rt rs : Reg) (cr : CopReg) (imm : BitVec 16) (ea : Word), ea = s.x rs + imm.signExtend 32 →
    (s.userForbidden ea → ∀ i ∈ [Instr.lb rt rs imm, .lbu rt rs imm, .lwl rt rs imm, .lwr rt rs imm],
      ∃ t, exec i s = .next t ∧ AddressError s t 4#5 ea) ∧
    (ea.toNat % 2 ≠ 0 ∨ s.userForbidden ea → ∀ i ∈ [Instr.lh rt rs imm, .lhu rt rs imm],
      ∃ t, exec i s = .next t ∧ AddressError s t 4#5 ea) ∧
    (ea.toNat % 4 ≠ 0 ∨ s.userForbidden ea → ∃ t, exec (.lw rt rs imm) s = .next t ∧ AddressError s t 4#5 ea) ∧
    (s.cop0Usable → ea.toNat % 4 ≠ 0 ∨ s.userForbidden ea →
      ∃ t, exec (.lwc0 cr rs imm) s = .next t ∧ AddressError s t 4#5 ea) ∧
    (s.userForbidden ea → ∀ i ∈ [Instr.sb rt rs imm, .swl rt rs imm, .swr rt rs imm],
      ∃ t, exec i s = .next t ∧ AddressError s t 5#5 ea) ∧
    (ea.toNat % 2 ≠ 0 ∨ s.userForbidden ea → ∃ t, exec (.sh rt rs imm) s = .next t ∧ AddressError s t 5#5 ea) ∧
    (ea.toNat % 4 ≠ 0 ∨ s.userForbidden ea → ∃ t, exec (.sw rt rs imm) s = .next t ∧ AddressError s t 5#5 ea) ∧
    (s.cop0Usable → ea.toNat % 4 ≠ 0 ∨ s.userForbidden ea →
      ∃ t, exec (.swc0 cr rs imm) s = .next t ∧ AddressError s t 5#5 ea)

/-- R860. LWC0 passes the loaded word to the COP0 write accessor at once; from device space the read is recorded. CpU(0) comes
before AdEL. -/
def Obligations.Lwc0WritesCop0 : Prop :=
  (DecodesAs 0xFC000000#32 0xC0000000#32 fun w => .lwc0 (rtField w) (rsField w) (immField w)) ∧
  ∀ (s : State) (cr : CopReg) (rs : Reg) (imm : BitVec 16) (ea : Word), ea = s.x rs + imm.signExtend 32 →
    ChecksCop0 s (.lwc0 cr rs imm) ∧
    (s.cop0Usable → ea.toNat % 4 ≠ 0 ∨ s.userForbidden ea →
      ∃ t, exec (.lwc0 cr rs imm) s = .next t ∧ AddressError s t 4#5 ea) ∧
    (s.cop0Usable → ea.toNat % 4 = 0 → ¬ s.userForbidden ea →
      ∀ v : Word, s.holdsWord ea v → ∃ t, exec (.lwc0 cr rs imm) s = .next t ∧ Cop0Step s t (s.cop0.written cr v)) ∧
    (s.cop0Usable → ea.toNat % 4 = 0 → ¬ s.userForbidden ea → s.regionOf ea = .device →
      ∃ t, exec (.lwc0 cr rs imm) s = .next t ∧ t.cop0 = s.cop0.written cr (s.deviceAnswer ea .word) ∧ WritesNoReg s t ∧ Falls s t ∧ Ages s t ∧ KeepsHiLo s t ∧
      KeepsBook s t ∧ (∀ b : Word, t.byteAt b = s.byteAt b) ∧
      t.events = .read (phys ea) .word (s.deviceAnswer ea .word) :: s.events ∧ t.draws = s.draws + 1)

/-- R861. SWC0 stores what the COP0 read accessor shows; for TAR that is a free value (entry 4), drawn once. CpU(0) comes
before AdES. -/
def Obligations.Swc0StoresCop0 : Prop :=
  (DecodesAs 0xFC000000#32 0xE0000000#32 fun w => .swc0 (rtField w) (rsField w) (immField w)) ∧
  ∀ (s : State) (cr : CopReg) (rs : Reg) (imm : BitVec 16) (ea v : Word), s.params.wf → s.mem.wf →
    ea = s.x rs + imm.signExtend 32 → v = s.cop0.shown (Config.drawTar s.draws) cr →
    ChecksCop0 s (.swc0 cr rs imm) ∧
    (s.cop0Usable → ea.toNat % 4 ≠ 0 ∨ s.userForbidden ea →
      ∃ t, exec (.swc0 cr rs imm) s = .next t ∧ AddressError s t 5#5 ea) ∧
    (s.cop0Usable → ea.toNat % 4 = 0 → ¬ s.userForbidden ea →
      ∃ t, exec (.swc0 cr rs imm) s = .next t ∧ t.draws = (if cr = 6 then s.draws + 1 else s.draws) ∧
        Stores s t ea 4 (fun _ => true) (byteOf v) (.write (phys ea) .word v))

/-- R240. With SR.IsC = 1 no step changes a byte of RAM or BIOS, while a store to scratchpad or device space still takes
effect. -/
def Obligations.CacheIsolationDropsRamAndBiosWrites : Prop :=
  (∀ s t : State, s.cop0.sr.getLsbD 16 = true → step s = .next t → t.mem.ram = s.mem.ram ∧ t.mem.bios = s.mem.bios) ∧
  ∀ (s : State) (a : Word) (v : Word), s.cop0.sr.getLsbD 16 = true → s.mem.wf →
    (s.regionOf a = .ram ∨ s.regionOf a = .bios → (s.memWrite a .byte v).byteAt a = s.byteAt a) ∧
    (s.regionOf a = .scratch → (s.memWrite a .byte v).byteAt a = some (byteOf v 0)) ∧
    (s.regionOf a = .device →
      (s.memWrite a .byte v).events = .write (phys a) .byte (v &&& 0x000000FF#32) :: s.events)

/-- R260. A word stored by SW is what LW then loads, at the same address or at any alias of it (another segment or a RAM
mirror), where the address takes stores. -/
def Obligations.LoadAfterStoreThroughAlias : Prop :=
  ∀ (s : State) (rt rs : Reg) (imm : BitVec 16) (ea : Word), s.params.wf → s.mem.wf →
    ea = s.x rs + imm.signExtend 32 → ea.toNat % 4 = 0 → ¬ s.userForbidden ea → s.takesStores ea = true →
    ∃ t, exec (.sw rt rs imm) s = .next t ∧
      ∀ (rt' rs' : Reg) (imm' : BitVec 16) (ea' : Word), ea' = t.x rs' + imm'.signExtend 32 → ea'.toNat % 4 = 0 →
        ¬ t.userForbidden ea' → s.sameByte ea' ea →
        ∃ u, exec (.lw rt' rs' imm') { t with currentPc := t.pc, pc := t.pc + 4#32 } = .next u ∧
          u.ld = ⟨true, rt', s.x rt⟩

/-- R210, R221. Two addresses that agree below bit 29 are one address to every access; inside the RAM window so are two
that agree modulo 2 MiB. -/
def Obligations.SegmentsAndMirrorsAlias : Prop :=
  (∀ (s : State) (a b : Word) (w : Width) (v : Word), a.toNat % 2 ^ 29 = b.toNat % 2 ^ 29 →
    s.byteAt a = s.byteAt b ∧ s.memRead a w = s.memRead b w ∧ s.memWrite a w v = s.memWrite b w v) ∧
  (∀ (s : State) (a b : Word), s.regionOf a = .ram → s.regionOf b = .ram →
    a.toNat % 2 ^ 29 % 0x200000 = b.toNat % 2 ^ 29 % 0x200000 → s.sameByte a b ∧ s.byteAt a = s.byteAt b)

/-! ### COP0 -/

/-- R130, R910. MFC0 makes the accessor's value pending; for TAR that is a free value (entry 4), drawn once. -/
def Obligations.Mfc0LoadsCop0Register : Prop :=
  (DecodesAs 0xFFE00000#32 0x40000000#32 fun w => .mfc0 (rtField w) (rdField w)) ∧
  ∀ (s : State) (rt : Reg) (cr : CopReg), ChecksCop0 s (.mfc0 rt cr) ∧
    (s.cop0Usable → ∃ t, exec (.mfc0 rt cr) s = .next t ∧
      LoadStep s t rt (s.cop0.shown (Config.drawTar s.draws) cr) (if cr = 6 then 1 else 0))

/-- R131, R911. MTC0 passes rt to the COP0 write accessor and changes nothing else; a new SR governs interrupt acceptance, the
mode and cache isolation from the next step on. -/
def Obligations.Mtc0WritesCop0Register : Prop :=
  (DecodesAs 0xFFE00000#32 0x40800000#32 fun w => .mtc0 (rtField w) (rdField w)) ∧
  ∀ (s : State) (rt : Reg) (cr : CopReg), ChecksCop0 s (.mtc0 rt cr) ∧
    (s.cop0Usable → ∃ t, exec (.mtc0 rt cr) s = .next t ∧ Cop0Step s t (s.cop0.written cr (s.x rt)) ∧
      (cr = 12 → (t.interruptTaken = true ↔ (s.x rt).getLsbD 0 = true ∧
          s.cop0.cause.extractLsb' 8 8 &&& (s.x rt).extractLsb' 8 8 ≠ 0#8) ∧
        (∀ a : Word, t.userForbidden a ↔ (s.x rt).getLsbD 1 = true ∧ a.getLsbD 31 = true) ∧
        ∀ a : Word, s.regionOf a = .ram → t.takesStores a = !(s.x rt).getLsbD 16))

/-- R912-R915, R921. The COP0 no-ops change nothing but the pc, and none is a branch. -/
def Obligations.Cop0NoOpsChangeNothing : Prop :=
  (DecodesAs 0xFFFF0000#32 0x41000000#32 fun w => .bc0f (immField w)) ∧
  (DecodesAs 0xFFFF0000#32 0x41010000#32 fun w => .bc0t (immField w)) ∧
  (DecodesAs 0xFFE00000#32 0x40400000#32 fun w => .cfc0 (rtField w) (rdField w)) ∧
  (DecodesAs 0xFFE00000#32 0x40C00000#32 fun w => .ctc0 (rtField w) (rdField w)) ∧
  (∀ w : Word, w &&& 0xFE000000#32 = 0x42000000#32 → functField w ≠ 0x10#6 → decode w = .cop0Generic (functField w)) ∧
  ∀ (s : State) (rt : Reg) (cr : CopReg) (imm : BitVec 16) (funct : BitVec 6), funct ≠ 0x10#6 →
    ∀ i ∈ [Instr.bc0f imm, .bc0t imm, .cfc0 rt cr, .ctc0 rt cr, .cop0Generic funct],
      ChecksCop0 s i ∧ (s.cop0Usable → ∃ t, exec i s = .next t ∧ Cop0Step s t s.cop0)

/-- R920. RFE: SR[3:0] takes SR[5:2], every other bit of SR is unchanged, and nothing else is written; the previous pair governs
interrupt acceptance and the mode from the next step on. -/
def Obligations.RfePopsModeStack : Prop :=
  (DecodesAs 0xFE00003F#32 0x42000010#32 fun _ => .rfe) ∧
  ∀ s : State, ChecksCop0 s .rfe ∧
    (s.cop0Usable → ∃ t, exec .rfe s = .next t ∧ Cop0Step s t { s.cop0 with sr := t.cop0.sr } ∧
      t.cop0.sr.extractLsb' 0 4 = s.cop0.sr.extractLsb' 2 4 ∧ t.cop0.sr.extractLsb' 4 28 = s.cop0.sr.extractLsb' 4 28 ∧
      (t.interruptTaken = true ↔ s.cop0.sr.getLsbD 2 = true ∧
        s.cop0.cause.extractLsb' 8 8 &&& s.cop0.sr.extractLsb' 8 8 ≠ 0#8) ∧
      ∀ a : Word, t.userForbidden a ↔ s.cop0.sr.getLsbD 3 = true ∧ a.getLsbD 31 = true)

/-- R901, R900. Every COP0 instruction, LWC0, SWC0 and the unnamed encodings among them, raises CpU(0) in user mode with
CU0 = 0, before anything else. -/
def Obligations.Cop0UnusableInUserMode : Prop :=
  (∀ w : Word, opField w = 0x10#6 ∨ opField w = 0x30#6 ∨ opField w = 0x38#6 → isCop0Instr (decode w) = true) ∧
  ∀ (i : Instr) (s : State), isCop0Instr i = true → s.cop0.sr.getLsbD 1 = true → s.cop0.sr.getLsbD 28 = false →
    ∃ t, exec i s = .next t ∧ EnteredPlain s t 11#5 s.currentPc ∧ Cause.ce t.cop0.cause = 0#2

/-- R341. The COP0 encodings the source does not name are refused once COP0 is usable: the spec gives them no effect. -/
def Obligations.UnnamedCop0IsRefused : Prop :=
  (∀ (w : Word) (s : State), opField w = 0x10#6 → s.cop0Usable →
    (rsBits w ∈ [0x01#5, 0x03#5, 0x05#5, 0x07#5, 0x09#5, 0x0A#5, 0x0B#5, 0x0C#5, 0x0D#5, 0x0E#5, 0x0F#5] ∨
      (rsBits w = 0x08#5 ∧ rtBits w ≠ 0#5 ∧ rtBits w ≠ 1#5)) →
    exec (decode w) s = .refused .unnamedCop0Encoding) ∧
  ∀ s : State, s.cop0Usable →
    (∀ i ∈ unnamedCop0Rs, exec i s = .refused .unnamedCop0Encoding) ∧
    (∀ cond : BitVec 5, exec (.cop0Rs08Other cond) s = .refused .unnamedCop0Encoding)

/-! ### System, reserved and coprocessor instructions -/

/-- R902, R903. SYSCALL and BREAK always take their exception, whatever their code field. -/
def Obligations.SyscallAndBreakTakeTheirException : Prop :=
  (DecodesAs 0xFC00003F#32 0x0000000C#32 fun w => .syscall (codeField w)) ∧
  (DecodesAs 0xFC00003F#32 0x0000000D#32 fun w => .brk (codeField w)) ∧
  ∀ (s : State) (code : BitVec 20),
    (∃ t, exec (.syscall code) s = .next t ∧ EnteredPlain s t 8#5 s.currentPc) ∧
    (∃ t, exec (.brk code) s = .next t ∧ EnteredPlain s t 9#5 s.currentPc)

/-- R340, R940. The words of the reserved list, and no others, decode to reserved instructions, and each of those takes the
Reserved Instruction exception. -/
def Obligations.ReservedWordsRaiseRI : Prop :=
  (∀ w : Word, isReserved (decode w) = reservedWord w) ∧
  ∀ (i : Instr) (s : State), isReserved i = true → ∃ t, exec i s = .next t ∧ EnteredPlain s t 10#5 s.currentPc

/-- R930. COP1 and COP3 and their loads and stores are unusable in every mode, and CAUSE.CE names the coprocessor. -/
def Obligations.Cop1AndCop3AreUnusable : Prop :=
  (DecodesAs 0xFC000000#32 0x44000000#32 fun _ => .cop1) ∧ (DecodesAs 0xFC000000#32 0xC4000000#32 fun _ => .lwc1) ∧
  (DecodesAs 0xFC000000#32 0xE4000000#32 fun _ => .swc1) ∧ (DecodesAs 0xFC000000#32 0x4C000000#32 fun _ => .cop3) ∧
  (DecodesAs 0xFC000000#32 0xCC000000#32 fun _ => .lwc3) ∧ (DecodesAs 0xFC000000#32 0xEC000000#32 fun _ => .swc3) ∧
  ∀ s : State,
    (∀ i ∈ [Instr.cop1, .lwc1, .swc1],
      ∃ t, exec i s = .next t ∧ EnteredPlain s t 11#5 s.currentPc ∧ Cause.ce t.cop0.cause = 1#2) ∧
    (∀ i ∈ [Instr.cop3, .lwc3, .swc3],
      ∃ t, exec i s = .next t ∧ EnteredPlain s t 11#5 s.currentPc ∧ Cause.ce t.cop0.cause = 3#2)

/-- R931. The COP2 instructions raise CpU(2) with CU2 = 0, and are refused with CU2 = 1. -/
def Obligations.Cop2TrapsOrIsRefused : Prop :=
  (DecodesAs 0xFC000000#32 0x48000000#32 fun _ => .cop2) ∧ (DecodesAs 0xFC000000#32 0xC8000000#32 fun _ => .lwc2) ∧
  (DecodesAs 0xFC000000#32 0xE8000000#32 fun _ => .swc2) ∧
  ∀ s : State, ∀ i ∈ [Instr.cop2, .lwc2, .swc2],
    (s.cop0.sr.getLsbD 30 = false →
      ∃ t, exec i s = .next t ∧ EnteredPlain s t 11#5 s.currentPc ∧ Cause.ce t.cop0.cause = 2#2) ∧
    (s.cop0.sr.getLsbD 30 = true → exec i s = .refused .cop2NotModelled)

/-! ### Exceptions and interrupts -/

/-- R1020-R1022, R1030, 40_cycle.md R409. Taking any exception: the mode stack is pushed, CAUSE and EPC describe the
victim, the pc goes to the vector BEV selects, the pending load is committed, and nothing else changes but BadVaddr for an
address error. -/
def Obligations.ExceptionEntryFollowsTheSpec : Prop :=
  ∀ (s : State) (v : Word),
    (∀ (e : Exc) (code : BitVec 5),
      (e, code) ∈ [(Exc.int, 0#5), (.sys, 8#5), (.bp, 9#5), (.ri, 10#5), (.ov, 12#5)] →
        EnteredPlain s (s.takeException e v) code v) ∧
    (∀ n : BitVec 2, EnteredPlain s (s.takeException (.cpU n) v) 11#5 v ∧
      Cause.ce (s.takeException (.cpU n) v).cop0.cause = n) ∧
    (∀ a : Word, Entered s (s.takeException (.adEL a) v) 4#5 v ∧ (s.takeException (.adEL a) v).cop0.badVaddr = a) ∧
    (∀ a : Word, Entered s (s.takeException (.adES a) v) 5#5 v ∧ (s.takeException (.adES a) v).cop0.badVaddr = a)

/-- R1021 (P7). In the slot of a taken branch the exception saves the branch's address and sets CAUSE.BD; otherwise it
saves the victim's; BD_ON_UNTAKEN_BRANCH extends the first case to the slot of an untaken one. -/
def Obligations.DelaySlotExceptionsSaveTheBranch : Prop :=
  ∀ (s : State) (e : Exc) (v : Word),
    (s.bd.pending = true → Cause.bd (s.takeException e v).cop0.cause = true ∧ (s.takeException e v).cop0.epc = v - 4#32) ∧
    (s.bd.pending = false → s.params.bdOnUntakenBranch = true → s.slot = true →
      Cause.bd (s.takeException e v).cop0.cause = true ∧ (s.takeException e v).cop0.epc = v - 4#32) ∧
    (s.bd.pending = false → s.params.bdOnUntakenBranch = false ∨ s.slot = false →
      Cause.bd (s.takeException e v).cop0.cause = false ∧ (s.takeException e v).cop0.epc = v)

/-- R1040, R402. An enabled pending interrupt is taken at the start of the step: nothing is fetched, and EPC describes the
instruction that would have run. -/
def Obligations.EnabledInterruptIsTaken : Prop :=
  ∀ s : State, s.status = .running →
    (s.interruptTaken = true ↔
      s.cop0.sr.getLsbD 0 = true ∧ s.cop0.cause.extractLsb' 8 8 &&& s.cop0.sr.extractLsb' 8 8 ≠ 0#8) ∧
    (s.interruptTaken = true → ∃ t, step s = .next t ∧ EnteredPlain s t 0#5 s.pc)

/-- R403. A misaligned fetch pointer, or a kernel address in user mode, takes AdEL with the pc in EPC and BadVaddr; nothing
is fetched. -/
def Obligations.FetchAddressErrors : Prop :=
  ∀ s : State, s.status = .running → s.interruptTaken = false → s.pc.toNat % 4 ≠ 0 ∨ s.userForbidden s.pc →
    ∃ t, step s = .next t ∧ Entered s t 4#5 s.pc ∧ t.cop0.badVaddr = s.pc

/-- R1000. The only exception codes a step can set are those of the table that are raised. -/
def Obligations.OnlyListedExceptionCodes : Prop :=
  ∀ s t : State, step s = .next t →
    Cause.excCode t.cop0.cause = Cause.excCode s.cop0.cause ∨
      Cause.excCode t.cop0.cause ∈ [0#5, 4#5, 5#5, 8#5, 9#5, 10#5, 11#5, 12#5]

/-- R151, R131. Outside exception entry a step changes bits 9:8 of CAUSE at most; exception entry changes ExcCode, CE and BD
at most; no step changes the interrupt lines. -/
def Obligations.CauseBitsChangeOnlyAsTheSpecSays : Prop :=
  ∀ s t : State, step s = .next t →
    t.cop0.cause &&& ~~~0x00000300#32 = s.cop0.cause &&& ~~~0x00000300#32 ∨
    (t.cop0.cause &&& ~~~0xB000007C#32 = s.cop0.cause &&& ~~~0xB000007C#32 ∧
      t.pc = if s.cop0.sr.getLsbD 22 then 0xBFC00180#32 else 0x80000080#32)

/-- R134, R135, R136. PRID is never written by a step; EPC is written by exception entry only, BadVaddr by that of an
address error only. -/
def Obligations.ReadOnlyCop0RegistersChangeByExceptionsOnly : Prop :=
  ∀ s t : State, step s = .next t →
    t.cop0.prid = s.cop0.prid ∧
    (t.cop0.epc = s.cop0.epc ∨
      (t.pc = (if s.cop0.sr.getLsbD 22 then 0xBFC00180#32 else 0x80000080#32) ∧
        t.cop0.epc = if s.inDelaySlot then s.pc - 4#32 else s.pc)) ∧
    (t.cop0.badVaddr = s.cop0.badVaddr ∨
      (t.pc = (if s.cop0.sr.getLsbD 22 then 0xBFC00180#32 else 0x80000080#32) ∧
        (Cause.excCode t.cop0.cause = 4#5 ∨ Cause.excCode t.cop0.cause = 5#5)))

/-- R1020 with R920, R1051. An RFE after an exception gives the interrupted code its current and previous pairs back; the old
pair now holds what was its previous pair. -/
def Obligations.RfeUndoesExceptionEntry : Prop :=
  ∀ (s : State) (e : Exc) (v : Word), ∃ t, exec .rfe (s.takeException e v) = .next t ∧
    t.cop0.sr.extractLsb' 0 4 = s.cop0.sr.extractLsb' 0 4 ∧ t.cop0.sr.extractLsb' 4 2 = s.cop0.sr.extractLsb' 2 2 ∧
    t.cop0.sr.extractLsb' 6 26 = s.cop0.sr.extractLsb' 6 26

/-- R1061, R1063. In user mode with CU0 = 0 a step leaves the whole COP0 bank alone, unless it takes an exception, which
enters kernel mode at the vector. -/
def Obligations.UserModeReachesKernelByExceptionsOnly : Prop :=
  ∀ s t : State, s.cop0.sr.getLsbD 1 = true → s.cop0.sr.getLsbD 28 = false → step s = .next t →
    t.cop0 = s.cop0 ∨
    (t.cop0.sr.getLsbD 1 = false ∧ t.cop0.sr.getLsbD 0 = false ∧ t.cop0.sr.extractLsb' 6 26 = s.cop0.sr.extractLsb' 6 26 ∧
      t.cop0.gen = s.cop0.gen ∧ t.cop0.prid = s.cop0.prid ∧
      t.pc = if s.cop0.sr.getLsbD 22 then 0xBFC00180#32 else 0x80000080#32)

/-! ### The step -/

/-- R404. Where no interrupt is taken and the fetch is allowed, the step is the decoded instruction run with currentPc at
the fetched address and pc at the next word; a fetch from device space runs the word the oracle answers (a free value,
entry 4) and is recorded. -/
def Obligations.StepRunsTheDecodedInstruction : Prop :=
  ∀ s : State, s.status = .running → s.interruptTaken = false → s.pc.toNat % 4 = 0 → ¬ s.userForbidden s.pc →
    (∀ w : Word, s.holdsWord s.pc w →
      step s = exec (decode w) { s with currentPc := s.pc, pc := s.pc + 4#32 }) ∧
    (s.regionOf s.pc = .device →
      step s = exec (decode (s.deviceAnswer s.pc .word))
        { s with currentPc := s.pc, pc := s.pc + 4#32, draws := s.draws + 1
                 events := .read (phys s.pc) .word (s.deviceAnswer s.pc .word) :: s.events })

/-- R115, R400, R1102. A state that is not running has no next step: it answers its reason again (the model's choice, entry 10,
DESIGN CHOICE), and the step action leaves it as it is; a refused or faulted step marks the status and changes nothing else;
reset starts it again. -/
def Obligations.StoppedStatesHaveNoStep : Prop :=
  ∀ s : State,
    (∀ r : Refusal, s.status = .refused r → step s = .refused r ∧ s.act .step = s) ∧
    (∀ f : Fault, s.status = .faulted f → step s = .fault f ∧ s.act .step = s) ∧
    (∀ r : Refusal, step s = .refused r → s.act .step = { s with status := .refused r }) ∧
    (∀ f : Fault, step s = .fault f → s.act .step = { s with status := .faulted f }) ∧
    (s.act .reset).status = .running

/-- R406-R408 (P1). The value of a load that is pending as an instruction other than LWL and LWR runs cannot reach anything
but the load's own register: two runs that differ in that value alone end alike everywhere else. -/
def Obligations.PendingLoadIsInvisibleToTheSlot : Prop :=
  ∀ (i : Instr) (s : State) (v : Word), chainsLoads i = false → s.ld.pending = true →
    match exec i s, exec i { s with ld := { s.ld with value := v } } with
    | .next t, .next u =>
      (∀ r : Reg, r ≠ s.ld.reg → u.x r = t.x r) ∧ u.hi = t.hi ∧ u.lo = t.lo ∧ u.pc = t.pc ∧ u.currentPc = t.currentPc ∧
      u.bd = t.bd ∧ u.slot = t.slot ∧ u.hiloAge = t.hiloAge ∧ u.status = t.status ∧ u.cop0 = t.cop0 ∧ u.mem = t.mem ∧
      u.events = t.events ∧ u.draws = t.draws ∧ u.params = t.params ∧ u.ld.pending = t.ld.pending ∧
      (t.ld.pending = true → u.ld = t.ld)
    | .fault f, .fault g => f = g
    | .refused f, .refused g => f = g
    | _, _ => False

/-- R410 (P3). After every step register 0 is zero, whatever the step did. -/
def Obligations.RegisterZeroIsZeroAfterEveryStep : Prop :=
  ∀ s t : State, step s = .next t → t.gpr[0] = 0#32 ∧ t.x 0 = 0#32

/-- The invariant every step and every host action keeps: canonical memory (the model's own form), register 0 zero, no branch
pending outside a slot, the fixed PRID. -/
def Obligations.StepKeepsTheInvariant : Prop :=
  (∀ s t : State, s.Inv → step s = .next t → t.Inv) ∧
  (∀ (s : State) (l : BitVec 6), s.Inv → (s.act (.setInterruptLines l)).Inv) ∧
  (∀ s : State, s.Inv → (s.act .reset).Inv)

/-- The invariant holds right after reset. -/
def Obligations.ResetMeetsTheInvariant : Prop := State.reset.Inv

/-- R223, R231, R115. No step changes the BIOS image, the parameters or the status, and each adds at most two events (a fetch
and one access) in front of the device history. -/
def Obligations.StepsKeepBiosAndExtendHistory : Prop :=
  ∀ s t : State, step s = .next t →
    t.mem.bios = s.mem.bios ∧ t.params = s.params ∧ t.status = s.status ∧
      ∃ l : List DeviceEvent, l.length ≤ 2 ∧ t.events = l ++ s.events

/-! ### Encoding -/

/-- Decode and encode agree: every well-formed instruction is read back from its word, from its bytes and from the table's
numbering, with every operand at every value its field admits. -/
def Obligations.DecodeReadsBackEveryEncodedInstruction : Prop :=
  ∀ i : Instr, i.wf = true →
    decode (encode i) = i ∧ decodeTableWord 32 (encode i).toNat = some i ∧
    ∀ rest : List Byte, decodeBytes (tableBytes 32 (encode i).toNat ++ rest) = .ok (i, rest)

/-- R320. Every word decodes to exactly one row of the table: the instruction it decodes to is well-formed, the word lies in
that instruction's row, and in no other row. -/
def Obligations.EveryWordLiesInExactlyItsRow : Prop :=
  ∀ w : Word, (decode w).wf = true ∧ (decode w).row.covers w = true ∧
    ∀ i : Instr, i.row.covers w = true → i.row = (decode w).row

/-- Words written out in the spec's examples decode to the instructions they stand for. -/
def Obligations.ExampleWordsDecode : Prop :=
  decode 0x00084FC0#32 = .sll 9 8 31 ∧ decode 0x01484807#32 = .srav 9 8 10 ∧ decode 0x010A482B#32 = .sltu 9 8 10 ∧
  decode 0x21080001#32 = .addi 8 8 1 ∧ decode 0x3C098000#32 = .lui 9 0x8000#16 ∧ decode 0x010A001A#32 = .div 8 10 ∧
  decode 0x00004810#32 = .mfhi 9 ∧ decode 0x110A0003#32 = .beq 8 10 3#16 ∧ decode 0x05110002#32 = .bgezal 8 2#16 ∧
  decode 0x05020002#32 = .bcondzRt02 8 2#16 ∧ decode 0x0C040000#32 = .jal 0x40000#26 ∧
  decode 0x01004809#32 = .jalr 9 8 ∧ decode 0x99090001#32 = .lwr 9 8 1#16 ∧ decode 0xA9090004#32 = .swl 9 8 4#16 ∧
  decode 0xC10C0000#32 = .lwc0 12 8 0#16 ∧ decode 0x0000000C#32 = .syscall 0#20 ∧ decode 0x40086000#32 = .mfc0 8 12 ∧
  decode 0x40886800#32 = .mtc0 8 13 ∧ decode 0x42000010#32 = .rfe ∧ decode 0x42000002#32 = .cop0Generic 2#6 ∧
  decode 0x44000000#32 = .cop1 ∧ decode 0x48000000#32 = .cop2 ∧ decode 0xFC000000#32 = .reservedOp3F ∧
  decode 0x00000001#32 = .reservedFunct01 ∧ decode 0x00000000#32 = .sll 0 0 0#5

/-! ### Reset and the host -/

/-- R1100, R160, R1102. Reset sets what the spec gives a value for, from any state, stopped ones too; the BIOS image stays.
That the host's interrupt lines stay is the model's reading (entry 9, DEDUCED), and that the parameters stay its choice (entry 6,
DESIGN CHOICE). -/
def Obligations.ResetSetsTheSpecifiedState : Prop :=
  ∀ s : State, (s.act .reset).pc = 0xBFC00000#32 ∧ (s.act .reset).gpr[0] = 0#32 ∧
    (s.act .reset).ld.pending = false ∧ (s.act .reset).bd.pending = false ∧ (s.act .reset).slot = false ∧
    (s.act .reset).hiloAge = 2 ∧ (s.act .reset).status = .running ∧ (s.act .reset).cop0.sr = s.params.srReset ∧
    (s.act .reset).cop0.prid = 0x00000002#32 ∧
    (s.act .reset).cop0.cause.extractLsb' 10 6 = s.cop0.cause.extractLsb' 10 6 ∧
    (s.act .reset).mem.bios = s.mem.bios ∧ (s.act .reset).params = s.params

/-- R160, R1101. The state right after reset with the spec's defaults: kernel mode, interrupts off, BEV set, cache not
isolated, coprocessors unusable. -/
def Obligations.ResetStateIsKernelModeAtTheVector : Prop :=
  State.reset.pc = 0xBFC00000#32 ∧ State.reset.cop0.sr = 0x00400000#32 ∧ State.reset.cop0.prid = 0x00000002#32 ∧
  State.reset.gpr[0] = 0#32 ∧ State.reset.ld.pending = false ∧ State.reset.bd.pending = false ∧
  State.reset.slot = false ∧ State.reset.hiloAge = 2 ∧ State.reset.status = .running ∧
  State.reset.cop0.sr.getLsbD 1 = false ∧ State.reset.cop0.sr.getLsbD 0 = false ∧
  State.reset.cop0.sr.extractLsb' 8 8 = 0#8 ∧ State.reset.cop0.sr.getLsbD 22 = true ∧
  State.reset.cop0.sr.getLsbD 16 = false ∧ State.reset.cop0.sr.extractLsb' 28 4 = 0#4 ∧
  placeOf State.reset.params (phys State.reset.pc) = ⟨.bios, 0⟩

/-- R1041. The host's interrupt lines set CAUSE[15:10] and nothing else. -/
def Obligations.InterruptLinesSetCauseBits : Prop :=
  ∀ (s : State) (l : BitVec 6),
    (s.act (.setInterruptLines l)).cop0.cause.extractLsb' 10 6 = l ∧
    (s.act (.setInterruptLines l)).cop0.cause &&& ~~~0x0000FC00#32 = s.cop0.cause &&& ~~~0x0000FC00#32 ∧
    s.act (.setInterruptLines l) =
      { s with cop0 := { s.cop0 with cause := (s.act (.setInterruptLines l)).cop0.cause } }

/-- R1120, for the registers and latches. LoadExe sets the pc, $gp and, where the file gives a stack base, $sp and $fp,
clears the latches, and leaves every other register, HI, LO, COP0 and the BIOS image alone. -/
def Obligations.LoadExeSetsTheInitialRegisters : Prop :=
  ∀ (s : State) (file : List Byte) (base : Word), base = fileWord file 0x30 →
    (s.act (.loadExe file)).pc = fileWord file 0x10 ∧
    (s.act (.loadExe file)).x 28 = fileWord file 0x14 ∧
    (base ≠ 0#32 → (s.act (.loadExe file)).x 29 = base + fileWord file 0x34 ∧
      (s.act (.loadExe file)).x 30 = base + fileWord file 0x34) ∧
    (base = 0#32 → (s.act (.loadExe file)).x 29 = s.x 29 ∧ (s.act (.loadExe file)).x 30 = s.x 30) ∧
    (∀ r : Reg, r ≠ 28 → r ≠ 29 → r ≠ 30 → (s.act (.loadExe file)).x r = s.x r) ∧
    (s.act (.loadExe file)).ld.pending = false ∧ (s.act (.loadExe file)).bd.pending = false ∧
    (s.act (.loadExe file)).slot = false ∧ (s.act (.loadExe file)).hi = s.hi ∧ (s.act (.loadExe file)).lo = s.lo ∧
    (s.act (.loadExe file)).cop0 = s.cop0 ∧ (s.act (.loadExe file)).mem.bios = s.mem.bios ∧
    (s.act (.loadExe file)).events = s.events
end

