-- ==== Sys2Proof/Laws/Encoding.lean ====
section
/-! SUPPORT. The fields of each encoding format, and the masks of the opcode table in terms of fields. -/

namespace Sys2Proof

theorem regBits_toFin (r : Reg) : (regBits r).toFin = r := rfl

/-! ### Fields of each format -/

theorem opField_encR (rs rt rd : Reg) (sa : BitVec 5) (funct : BitVec 6) : opField (encR rs rt rd sa funct) = 0#6 := by
  apply BitVec.eq_of_getLsbD_eq; intro i hi
  simp only [opField, encR, BitVec.getLsbD_extractLsb', BitVec.getLsbD_append]
  interval_cases i <;> simp

theorem rsBits_encR (rs rt rd : Reg) (sa : BitVec 5) (funct : BitVec 6) : rsBits (encR rs rt rd sa funct) = regBits rs := by
  apply BitVec.eq_of_getLsbD_eq; intro i hi
  simp only [rsBits, encR, BitVec.getLsbD_extractLsb', BitVec.getLsbD_append]
  interval_cases i <;> simp

theorem rtBits_encR (rs rt rd : Reg) (sa : BitVec 5) (funct : BitVec 6) : rtBits (encR rs rt rd sa funct) = regBits rt := by
  apply BitVec.eq_of_getLsbD_eq; intro i hi
  simp only [rtBits, encR, BitVec.getLsbD_extractLsb', BitVec.getLsbD_append]
  interval_cases i <;> simp

theorem rdBits_encR (rs rt rd : Reg) (sa : BitVec 5) (funct : BitVec 6) :
    (encR rs rt rd sa funct).extractLsb' 11 5 = regBits rd := by
  apply BitVec.eq_of_getLsbD_eq; intro i hi
  simp only [encR, BitVec.getLsbD_extractLsb', BitVec.getLsbD_append]
  interval_cases i <;> simp

theorem saField_encR (rs rt rd : Reg) (sa : BitVec 5) (funct : BitVec 6) : saField (encR rs rt rd sa funct) = sa := by
  apply BitVec.eq_of_getLsbD_eq; intro i hi
  simp only [saField, encR, BitVec.getLsbD_extractLsb', BitVec.getLsbD_append]
  interval_cases i <;> simp

theorem functField_encR (rs rt rd : Reg) (sa : BitVec 5) (funct : BitVec 6) : functField (encR rs rt rd sa funct) = funct := by
  apply BitVec.eq_of_getLsbD_eq; intro i hi
  simp only [functField, encR, BitVec.getLsbD_extractLsb', BitVec.getLsbD_append]
  interval_cases i <;> simp

theorem opField_encI (op : BitVec 6) (rs rt : Reg) (imm : BitVec 16) : opField (encI op rs rt imm) = op := by
  apply BitVec.eq_of_getLsbD_eq; intro i hi
  simp only [opField, encI, BitVec.getLsbD_extractLsb', BitVec.getLsbD_append]
  interval_cases i <;> simp

theorem rsBits_encI (op : BitVec 6) (rs rt : Reg) (imm : BitVec 16) : rsBits (encI op rs rt imm) = regBits rs := by
  apply BitVec.eq_of_getLsbD_eq; intro i hi
  simp only [rsBits, encI, BitVec.getLsbD_extractLsb', BitVec.getLsbD_append]
  interval_cases i <;> simp

theorem rtBits_encI (op : BitVec 6) (rs rt : Reg) (imm : BitVec 16) : rtBits (encI op rs rt imm) = regBits rt := by
  apply BitVec.eq_of_getLsbD_eq; intro i hi
  simp only [rtBits, encI, BitVec.getLsbD_extractLsb', BitVec.getLsbD_append]
  interval_cases i <;> simp

theorem immField_encI (op : BitVec 6) (rs rt : Reg) (imm : BitVec 16) : immField (encI op rs rt imm) = imm := by
  apply BitVec.eq_of_getLsbD_eq; intro i hi
  simp only [immField, encI, BitVec.getLsbD_extractLsb', BitVec.getLsbD_append]
  simp [hi]

theorem opField_encJ (op : BitVec 6) (target : BitVec 26) : opField (encJ op target) = op := by
  apply BitVec.eq_of_getLsbD_eq; intro i hi
  simp only [opField, encJ, BitVec.getLsbD_extractLsb', BitVec.getLsbD_append]
  interval_cases i <;> simp

theorem targetField_encJ (op : BitVec 6) (target : BitVec 26) : targetField (encJ op target) = target := by
  apply BitVec.eq_of_getLsbD_eq; intro i hi
  simp only [targetField, encJ, BitVec.getLsbD_extractLsb', BitVec.getLsbD_append]
  simp [hi]

theorem opField_encCode (code : BitVec 20) (funct : BitVec 6) : opField (encCode code funct) = 0#6 := by
  apply BitVec.eq_of_getLsbD_eq; intro i hi
  simp only [opField, encCode, BitVec.getLsbD_extractLsb', BitVec.getLsbD_append]
  interval_cases i <;> simp

theorem codeField_encCode (code : BitVec 20) (funct : BitVec 6) : codeField (encCode code funct) = code := by
  apply BitVec.eq_of_getLsbD_eq; intro i hi
  simp only [codeField, encCode, BitVec.getLsbD_extractLsb', BitVec.getLsbD_append]
  interval_cases i <;> simp

theorem functField_encCode (code : BitVec 20) (funct : BitVec 6) : functField (encCode code funct) = funct := by
  apply BitVec.eq_of_getLsbD_eq; intro i hi
  simp only [functField, encCode, BitVec.getLsbD_extractLsb', BitVec.getLsbD_append]
  interval_cases i <;> simp

theorem opField_encCop (rs rt rd : Reg) : opField (encCop rs rt rd) = 0x10#6 := by
  apply BitVec.eq_of_getLsbD_eq; intro i hi
  simp only [opField, encCop, BitVec.getLsbD_extractLsb', BitVec.getLsbD_append]
  interval_cases i <;> simp

theorem rsBits_encCop (rs rt rd : Reg) : rsBits (encCop rs rt rd) = regBits rs := by
  apply BitVec.eq_of_getLsbD_eq; intro i hi
  simp only [rsBits, encCop, BitVec.getLsbD_extractLsb', BitVec.getLsbD_append]
  interval_cases i <;> simp

theorem rtBits_encCop (rs rt rd : Reg) : rtBits (encCop rs rt rd) = regBits rt := by
  apply BitVec.eq_of_getLsbD_eq; intro i hi
  simp only [rtBits, encCop, BitVec.getLsbD_extractLsb', BitVec.getLsbD_append]
  interval_cases i <;> simp

theorem rdBits_encCop (rs rt rd : Reg) : (encCop rs rt rd).extractLsb' 11 5 = regBits rd := by
  apply BitVec.eq_of_getLsbD_eq; intro i hi
  simp only [encCop, BitVec.getLsbD_extractLsb', BitVec.getLsbD_append]
  interval_cases i <;> simp

theorem opField_encCmd (funct : BitVec 6) : opField (encCmd funct) = 0x10#6 := by revert funct; decide

theorem rsBits_encCmd (funct : BitVec 6) : rsBits (encCmd funct) = 0x10#5 := by revert funct; decide

theorem functField_encCmd (funct : BitVec 6) : functField (encCmd funct) = funct := by revert funct; decide

/-! ### The masks of the opcode table -/

theorem and_opMask (w : Word) : w &&& 0xFC000000#32 = opField w ++ 0#26 := by
  apply BitVec.eq_of_getLsbD_eq; intro i hi
  simp only [opField, BitVec.getLsbD_append, BitVec.getLsbD_extractLsb', BitVec.getLsbD_and]
  interval_cases i <;> simp

theorem and_functMask (w : Word) : w &&& 0xFC00003F#32 = opField w ++ 0#20 ++ functField w := by
  apply BitVec.eq_of_getLsbD_eq; intro i hi
  simp only [opField, functField, BitVec.getLsbD_append, BitVec.getLsbD_extractLsb', BitVec.getLsbD_and]
  interval_cases i <;> simp

theorem and_rtMask (w : Word) : w &&& 0xFC1F0000#32 = opField w ++ 0#5 ++ rtBits w ++ 0#16 := by
  apply BitVec.eq_of_getLsbD_eq; intro i hi
  simp only [opField, rtBits, BitVec.getLsbD_append, BitVec.getLsbD_extractLsb', BitVec.getLsbD_and]
  interval_cases i <;> simp

theorem and_rsMask (w : Word) : w &&& 0xFFE00000#32 = opField w ++ rsBits w ++ 0#21 := by
  apply BitVec.eq_of_getLsbD_eq; intro i hi
  simp only [opField, rsBits, BitVec.getLsbD_append, BitVec.getLsbD_extractLsb', BitVec.getLsbD_and]
  interval_cases i <;> simp

theorem and_rsRtMask (w : Word) : w &&& 0xFFFF0000#32 = opField w ++ rsBits w ++ rtBits w ++ 0#16 := by
  apply BitVec.eq_of_getLsbD_eq; intro i hi
  simp only [opField, rsBits, rtBits, BitVec.getLsbD_append, BitVec.getLsbD_extractLsb', BitVec.getLsbD_and]
  interval_cases i <;> simp

theorem and_cmdMask (w : Word) : w &&& 0xFE000000#32 = opField w ++ (rsBits w).extractLsb' 4 1 ++ 0#25 := by
  apply BitVec.eq_of_getLsbD_eq; intro i hi
  simp only [opField, rsBits, BitVec.getLsbD_append, BitVec.getLsbD_extractLsb', BitVec.getLsbD_and]
  interval_cases i <;> simp

theorem and_cmdFunctMask (w : Word) :
    w &&& 0xFE00003F#32 = opField w ++ (rsBits w).extractLsb' 4 1 ++ 0#19 ++ functField w := by
  apply BitVec.eq_of_getLsbD_eq; intro i hi
  simp only [opField, rsBits, functField, BitVec.getLsbD_append, BitVec.getLsbD_extractLsb', BitVec.getLsbD_and]
  interval_cases i <;> simp

/-! ### The fields a masked word fixes -/

theorem opField_and_opMask (w : Word) : opField (w &&& 0xFC000000#32) = opField w := by
  apply BitVec.eq_of_getLsbD_eq; intro i hi
  simp only [opField, BitVec.getLsbD_extractLsb', BitVec.getLsbD_and]
  interval_cases i <;> simp

theorem opField_and_functMask (w : Word) : opField (w &&& 0xFC00003F#32) = opField w := by
  apply BitVec.eq_of_getLsbD_eq; intro i hi
  simp only [opField, BitVec.getLsbD_extractLsb', BitVec.getLsbD_and]
  interval_cases i <;> simp

theorem functField_and_functMask (w : Word) : functField (w &&& 0xFC00003F#32) = functField w := by
  apply BitVec.eq_of_getLsbD_eq; intro i hi
  simp only [functField, BitVec.getLsbD_extractLsb', BitVec.getLsbD_and]
  interval_cases i <;> simp

theorem opField_and_rtMask (w : Word) : opField (w &&& 0xFC1F0000#32) = opField w := by
  apply BitVec.eq_of_getLsbD_eq; intro i hi
  simp only [opField, BitVec.getLsbD_extractLsb', BitVec.getLsbD_and]
  interval_cases i <;> simp

theorem rtBits_and_rtMask (w : Word) : rtBits (w &&& 0xFC1F0000#32) = rtBits w := by
  apply BitVec.eq_of_getLsbD_eq; intro i hi
  simp only [rtBits, BitVec.getLsbD_extractLsb', BitVec.getLsbD_and]
  interval_cases i <;> simp

theorem opField_and_rsMask (w : Word) : opField (w &&& 0xFFE00000#32) = opField w := by
  apply BitVec.eq_of_getLsbD_eq; intro i hi
  simp only [opField, BitVec.getLsbD_extractLsb', BitVec.getLsbD_and]
  interval_cases i <;> simp

theorem rsBits_and_rsMask (w : Word) : rsBits (w &&& 0xFFE00000#32) = rsBits w := by
  apply BitVec.eq_of_getLsbD_eq; intro i hi
  simp only [rsBits, BitVec.getLsbD_extractLsb', BitVec.getLsbD_and]
  interval_cases i <;> simp

theorem opField_and_rsRtMask (w : Word) : opField (w &&& 0xFFFF0000#32) = opField w := by
  apply BitVec.eq_of_getLsbD_eq; intro i hi
  simp only [opField, BitVec.getLsbD_extractLsb', BitVec.getLsbD_and]
  interval_cases i <;> simp

theorem rsBits_and_rsRtMask (w : Word) : rsBits (w &&& 0xFFFF0000#32) = rsBits w := by
  apply BitVec.eq_of_getLsbD_eq; intro i hi
  simp only [rsBits, BitVec.getLsbD_extractLsb', BitVec.getLsbD_and]
  interval_cases i <;> simp

theorem rtBits_and_rsRtMask (w : Word) : rtBits (w &&& 0xFFFF0000#32) = rtBits w := by
  apply BitVec.eq_of_getLsbD_eq; intro i hi
  simp only [rtBits, BitVec.getLsbD_extractLsb', BitVec.getLsbD_and]
  interval_cases i <;> simp

theorem opField_and_cmdMask (w : Word) : opField (w &&& 0xFE000000#32) = opField w := by
  apply BitVec.eq_of_getLsbD_eq; intro i hi
  simp only [opField, BitVec.getLsbD_extractLsb', BitVec.getLsbD_and]
  interval_cases i <;> simp

theorem rsTop_and_cmdMask (w : Word) : (rsBits (w &&& 0xFE000000#32)).extractLsb' 4 1 = (rsBits w).extractLsb' 4 1 := by
  apply BitVec.eq_of_getLsbD_eq; intro i hi
  simp only [rsBits, BitVec.getLsbD_extractLsb', BitVec.getLsbD_and]
  interval_cases i; simp

theorem opField_and_cmdFunctMask (w : Word) : opField (w &&& 0xFE00003F#32) = opField w := by
  apply BitVec.eq_of_getLsbD_eq; intro i hi
  simp only [opField, BitVec.getLsbD_extractLsb', BitVec.getLsbD_and]
  interval_cases i <;> simp

theorem rsTop_and_cmdFunctMask (w : Word) : (rsBits (w &&& 0xFE00003F#32)).extractLsb' 4 1 = (rsBits w).extractLsb' 4 1 := by
  apply BitVec.eq_of_getLsbD_eq; intro i hi
  simp only [rsBits, BitVec.getLsbD_extractLsb', BitVec.getLsbD_and]
  interval_cases i; simp

theorem functField_and_cmdFunctMask (w : Word) : functField (w &&& 0xFE00003F#32) = functField w := by
  apply BitVec.eq_of_getLsbD_eq; intro i hi
  simp only [functField, BitVec.getLsbD_extractLsb', BitVec.getLsbD_and]
  interval_cases i <;> simp

/-! ### The sub-decoders -/

theorem decode_special {w : Word} (h : opField w = 0x00#6) : decode w = decodeSpecial w := by unfold decode; rw [h]; rfl
theorem decode_bcondZ {w : Word} (h : opField w = 0x01#6) : decode w = decodeBcondZ w := by unfold decode; rw [h]; rfl
theorem decode_cop0 {w : Word} (h : opField w = 0x10#6) : decode w = decodeCop0 w := by unfold decode; rw [h]; rfl

/-- A COP0 word with rs[4] = 1 is RFE or a generic command. -/
theorem decodeCop0_command {w : Word} (h : (rsBits w).extractLsb' 4 1 = 1#1) :
    decodeCop0 w = if functField w = 0x10#6 then .rfe else .cop0Generic (functField w) := by
  unfold decodeCop0
  generalize rsBits w = b at h
  have hb : ∃ k : Fin 16, b = BitVec.ofNat 5 (16 + k.val) := by
    revert h; revert b; decide
  obtain ⟨k, rfl⟩ := hb
  fin_cases k <;> rfl

end Sys2Proof
end

