-- ==== Sys2Proof/Laws/Decode.lean ====
section
/-! SUPPORT. Reading the fields that select an instruction off a row of the opcode table. -/

namespace Sys2Proof.Machine

/-- A row selected by its primary opcode. -/
theorem decodesAs_op {v : Word} {f : Word → Instr} (o : BitVec 6) (hv : opField v = o)
    (hf : ∀ w, opField w = o → decode w = f w) : DecodesAs 0xFC000000#32 v f := fun w h =>
  hf w (by rw [← opField_and_opMask, h, hv])

/-- A SPECIAL row selected by its function. -/
theorem decodesAs_funct {v : Word} {f : Word → Instr} (o : BitVec 6) (ho : opField v = 0#6) (hv : functField v = o)
    (hf : ∀ w, functField w = o → decodeSpecial w = f w) : DecodesAs 0xFC00003F#32 v f := fun w h => by
  have h1 : opField w = 0#6 := by rw [← opField_and_functMask, h, ho]
  have h2 : functField w = o := by rw [← functField_and_functMask, h, hv]
  rw [decode_special h1]
  exact hf w h2

/-- A BcondZ row selected by its rt field. -/
theorem decodesAs_rt {v : Word} {f : Word → Instr} (o : BitVec 5) (ho : opField v = 1#6) (hv : rtBits v = o)
    (hf : ∀ w, rtBits w = o → decodeBcondZ w = f w) : DecodesAs 0xFC1F0000#32 v f := fun w h => by
  have h1 : opField w = 1#6 := by rw [← opField_and_rtMask, h, ho]
  have h2 : rtBits w = o := by rw [← rtBits_and_rtMask, h, hv]
  rw [decode_bcondZ h1]
  exact hf w h2

/-- A COP0 row selected by its rs field. -/
theorem decodesAs_rs {v : Word} {f : Word → Instr} (o : BitVec 5) (ho : opField v = 0x10#6) (hv : rsBits v = o)
    (hf : ∀ w, rsBits w = o → decodeCop0 w = f w) : DecodesAs 0xFFE00000#32 v f := fun w h => by
  have h1 : opField w = 0x10#6 := by rw [← opField_and_rsMask, h, ho]
  have h2 : rsBits w = o := by rw [← rsBits_and_rsMask, h, hv]
  rw [decode_cop0 h1]
  exact hf w h2

end Sys2Proof.Machine
end

