-- ==== Sys2Proof/Laws/Flags.lean ====
section
/-! SUPPORT. The overflow tests as range tests, comparison results, immediates and shift amounts. -/

namespace Sys2Proof.Machine

/-- The sign-bit test of ADD and ADDI is the signed-range test (41_alu.md R520). -/
theorem addOverflows_iff (a b : Word) :
    addOverflows a b = true ↔ ¬ (-(2 ^ 31) ≤ a.toInt + b.toInt ∧ a.toInt + b.toInt < 2 ^ 31) := by
  have h : addOverflows a b = ((a.msb ^^ (a + b).msb) && (b.msb ^^ (a + b).msb)) := by simp [addOverflows]
  rw [h]
  simp only [BitVec.msb_eq_toInt, BitVec.toInt_add]
  have ha := BitVec.toInt_lt (x := a)
  have ha' := BitVec.le_toInt a
  have hb := BitVec.toInt_lt (x := b)
  have hb' := BitVec.le_toInt b
  norm_num at *
  simp only [Int.bmod]
  norm_num
  by_cases h1 : a.toInt < 0 <;> by_cases h2 : b.toInt < 0 <;> simp [h1, h2] <;> omega

/-- The sign-bit test of SUB is the signed-range test (41_alu.md R520). -/
theorem subOverflows_iff (a b : Word) :
    subOverflows a b = true ↔ ¬ (-(2 ^ 31) ≤ a.toInt - b.toInt ∧ a.toInt - b.toInt < 2 ^ 31) := by
  have h : subOverflows a b = ((a.msb ^^ b.msb) && (a.msb ^^ (a - b).msb)) := by simp [subOverflows]
  rw [h]
  simp only [BitVec.msb_eq_toInt, BitVec.toInt_sub]
  have ha := BitVec.toInt_lt (x := a)
  have ha' := BitVec.le_toInt a
  have hb := BitVec.toInt_lt (x := b)
  have hb' := BitVec.le_toInt b
  norm_num at *
  simp only [Int.bmod]
  norm_num
  by_cases h1 : a.toInt < 0 <;> by_cases h2 : b.toInt < 0 <;> simp [h1, h2] <;> omega

/-- Inside the signed range the wrapped sum is the exact one. -/
theorem toInt_add_of_range {a b : Word} (h : -(2 ^ 31) ≤ a.toInt + b.toInt ∧ a.toInt + b.toInt < 2 ^ 31) :
    (a + b).toInt = a.toInt + b.toInt := by
  rw [BitVec.toInt_add]
  simp only [Int.bmod]
  norm_num at *
  omega

/-- Inside the signed range the wrapped difference is the exact one. -/
theorem toInt_sub_of_range {a b : Word} (h : -(2 ^ 31) ≤ a.toInt - b.toInt ∧ a.toInt - b.toInt < 2 ^ 31) :
    (a - b).toInt = a.toInt - b.toInt := by
  rw [BitVec.toInt_sub]
  simp only [Int.bmod]
  norm_num at *
  omega

theorem toInt_simm (imm : BitVec 16) : (simm imm).toInt = imm.toInt := BitVec.toInt_signExtend_of_le (by decide)

theorem zimm_eq_append (imm : BitVec 16) : zimm imm = 0#16 ++ imm := by
  apply BitVec.eq_of_getLsbD_eq
  intro i hi
  simp only [zimm, BitVec.getLsbD_setWidth, BitVec.getLsbD_append]
  by_cases h : i < 16
  · simp [h, hi]
  · simp [h, BitVec.getLsbD_of_ge imm i (by omega)]

theorem shiftAmount_eq (v : Word) : shiftAmount v = v.toNat % 32 := by simp [shiftAmount]

theorem boolWord_eq {b : Bool} {p : Prop} [Decidable p] (h : b = true ↔ p) :
    boolWord b = if p then 1#32 else 0#32 := by
  unfold boolWord
  by_cases hp : p <;> simp [hp, h]

/-- The jump target is the top four bits of the delay slot's address, the field, and two zeros. -/
theorem jumpTarget_eq (pc : Word) (target : BitVec 26) :
    (pc &&& 0xF0000000#32) ||| (target.setWidth 32 <<< 2) = pc.extractLsb' 28 4 ++ target ++ 0#2 := by
  apply BitVec.eq_of_getLsbD_eq
  intro i hi
  simp only [BitVec.getLsbD_or, BitVec.getLsbD_and, BitVec.getLsbD_append, BitVec.getLsbD_extractLsb',
    BitVec.getLsbD_shiftLeft, BitVec.getLsbD_setWidth]
  interval_cases i <;> simp

end Sys2Proof.Machine
end

