-- ==== Sys2Proof/Laws/Mem.lean ====
section
/-! SUPPORT. The byte arrays and the router: read after write, the canonical form is kept, and where an access lands. -/

namespace Sys2Proof.Machine

/-! ### One byte array -/

theorem cellsRead_cons (a q : Nat) (b : Byte) (rest : List Host.Cell) :
    cellsRead ((a, b) :: rest) q = if a = q then b else cellsRead rest q := rfl

/-- An index below every listed one is unlisted. -/
theorem cellsRead_of_lt : ∀ {m : List Host.Cell} {a : Nat}, (∀ c ∈ m, a < c.1) → cellsRead m a = unlistedByte
  | [], _, _ => rfl
  | (k, c) :: rest, a, h => by
    have hk : a < k := h (k, c) List.mem_cons_self
    rw [cellsRead_cons, if_neg (by omega)]
    exact cellsRead_of_lt fun d hd => h d (List.mem_cons_of_mem _ hd)

theorem cellsRead_cellsCons_ne {a q : Nat} (h : a ≠ q) (b : Byte) (rest : List Host.Cell) :
    cellsRead (cellsCons a b rest) q = cellsRead rest q := by
  unfold cellsCons
  split
  · rfl
  · rw [cellsRead_cons, if_neg h]

theorem cellsRead_cellsCons_self {a : Nat} {b : Byte} {rest : List Host.Cell} (h : ∀ c ∈ rest, a < c.1) :
    cellsRead (cellsCons a b rest) a = b := by
  unfold cellsCons
  split
  · next hb => rw [cellsRead_of_lt h, hb]
  · rw [cellsRead_cons, if_pos rfl]

/-- A write leaves every other index alone. -/
theorem cellsRead_cellsWrite_ne : ∀ (m : List Host.Cell) {a q : Nat} (b : Byte), a ≠ q →
    cellsRead (cellsWrite m a b) q = cellsRead m q
  | [], a, q, b, h => cellsRead_cellsCons_ne h b []
  | (k, c) :: rest, a, q, b, h => by
    unfold cellsWrite
    split
    · exact cellsRead_cellsCons_ne h b _
    · split
      · next hk => subst hk; rw [cellsRead_cellsCons_ne h, cellsRead_cons, if_neg h]
      · rw [cellsRead_cons, cellsRead_cons, cellsRead_cellsWrite_ne rest b h]

/-- A read after a write to the same index. -/
theorem cellsRead_cellsWrite_self : ∀ {m : List Host.Cell}, m.Pairwise (fun c d => c.1 < d.1) → ∀ (a : Nat) (b : Byte),
    cellsRead (cellsWrite m a b) a = b
  | [], _, a, b => cellsRead_cellsCons_self (by simp)
  | (k, c) :: rest, hm, a, b => by
    have hrest := List.pairwise_cons.mp hm
    unfold cellsWrite
    split
    · next hk =>
      refine cellsRead_cellsCons_self fun d hd => ?_
      rcases List.mem_cons.mp hd with rfl | hd
      · exact hk
      · exact Nat.lt_trans hk (hrest.1 d hd)
    · split
      · next hk => subst hk; exact cellsRead_cellsCons_self hrest.1
      · next h1 h2 =>
        rw [cellsRead_cons, if_neg (fun e => h2 e.symm)]
        exact cellsRead_cellsWrite_self hrest.2 a b

theorem mem_cellsCons {a : Nat} {b : Byte} {rest : List Host.Cell} {c : Host.Cell} (h : c ∈ cellsCons a b rest) :
    (c = (a, b) ∧ b ≠ unlistedByte) ∨ c ∈ rest := by
  unfold cellsCons at h
  split at h
  · exact .inr h
  · next hb =>
    rcases List.mem_cons.mp h with rfl | h
    · exact .inl ⟨rfl, hb⟩
    · exact .inr h

theorem mem_cellsWrite : ∀ {m : List Host.Cell} {a : Nat} {b : Byte} {c : Host.Cell}, c ∈ cellsWrite m a b →
    (c = (a, b) ∧ b ≠ unlistedByte) ∨ c ∈ m
  | [], _, _, _, h => mem_cellsCons h
  | (k, d) :: rest, a, b, c, h => by
    unfold cellsWrite at h
    split at h
    · exact mem_cellsCons h
    · split at h
      · exact (mem_cellsCons h).imp_right (List.mem_cons_of_mem _)
      · rcases List.mem_cons.mp h with rfl | h
        · exact .inr List.mem_cons_self
        · exact (mem_cellsWrite h).imp_right (List.mem_cons_of_mem _)

theorem pairwise_cellsCons {a : Nat} {b : Byte} {rest : List Host.Cell} (hs : rest.Pairwise (fun c d => c.1 < d.1))
    (h : ∀ c ∈ rest, a < c.1) : (cellsCons a b rest).Pairwise (fun c d => c.1 < d.1) := by
  unfold cellsCons
  split
  · exact hs
  · exact List.pairwise_cons.mpr ⟨h, hs⟩

theorem pairwise_cellsWrite : ∀ {m : List Host.Cell}, m.Pairwise (fun c d => c.1 < d.1) → ∀ (a : Nat) (b : Byte),
    (cellsWrite m a b).Pairwise (fun c d => c.1 < d.1)
  | [], _, a, b => pairwise_cellsCons List.Pairwise.nil (by simp)
  | (k, c) :: rest, hm, a, b => by
    have hrest := List.pairwise_cons.mp hm
    unfold cellsWrite
    split
    · next hk =>
      refine pairwise_cellsCons hm fun d hd => ?_
      rcases List.mem_cons.mp hd with rfl | hd
      · exact hk
      · exact Nat.lt_trans hk (hrest.1 d hd)
    · split
      · next hk => subst hk; exact pairwise_cellsCons hrest.2 hrest.1
      · next h1 h2 =>
        refine List.pairwise_cons.mpr ⟨fun d hd => ?_, pairwise_cellsWrite hrest.2 a b⟩
        rcases mem_cellsWrite hd with ⟨rfl, _⟩ | hd
        · show k < a; omega
        · exact hrest.1 d hd

/-- A write inside the array keeps the canonical form. -/
theorem cellsWf_cellsWrite {n : Nat} {m : List Host.Cell} (h : cellsWf n m) {a : Nat} (ha : a < n) (b : Byte) :
    cellsWf n (cellsWrite m a b) := by
  refine ⟨pairwise_cellsWrite h.1 a b, fun c hc => ?_⟩
  rcases mem_cellsWrite hc with ⟨rfl, hb⟩ | hc
  · exact ⟨ha, hb⟩
  · exact h.2 c hc

/-! ### Places -/

/-- The place lies inside its array. -/
def Place.inBounds (l : Place) : Prop :=
  match l.region with
  | .scratch => l.index < Config.scratchSize
  | .ram => l.index < Config.ramSize
  | .bios => l.index < Config.biosSize
  | .device => True

theorem placeOf_region (c : Params) (p : Nat) : (placeOf c p).region = route c p := by
  unfold placeOf
  split <;> simp_all

theorem placeOf_inBounds (c : Params) (p : Nat) : (placeOf c p).inBounds := by
  unfold placeOf route
  split <;> rename_i h <;> simp only [Place.inBounds]
  · split at h
    · next hs => omega
    · split at h <;> [cases h; (split at h <;> cases h)]
  · exact Nat.mod_lt _ (by decide)
  · split at h
    · cases h
    · split at h
      · cases h
      · split at h
        · next hs => omega
        · cases h

/-- Two addresses of one aligned word land at different places. -/
theorem placeOf_ne {c : Params} {p i j : Nat} (hi : i < 4) (hj : j < 4) (hij : i ≠ j) :
    placeOf c (p + i) ≠ placeOf c (p + j) := by
  intro h
  have hr : route c (p + i) = route c (p + j) := by rw [← placeOf_region, ← placeOf_region, h]
  unfold placeOf at h
  rw [hr] at h
  cases hq : route c (p + j) <;> rw [hq] at h hr <;> simp only [Place.mk.injEq, true_and] at h
  · unfold route at hq hr
    split at hq
    · split at hr
      · omega
      · split at hr <;> [cases hr; (split at hr <;> cases hr)]
    · split at hq <;> [cases hq; (split at hq <;> cases hq)]
  · simp only [Config.ramSize] at h; omega
  · unfold route at hq hr
    split at hq
    · cases hq
    · split at hq
      · cases hq
      · split at hq
        · split at hr
          · cases hr
          · split at hr
            · cases hr
            · split at hr
              · omega
              · cases hr
        · cases hq
  · omega

/-- An aligned word lies in one region (20_memory.md R224). -/
theorem route_aligned {c : Params} (hc : c.wf) {p k : Nat} (hp : p % 4 = 0) (hk : k < 4) :
    route c (p + k) = route c p := by
  obtain ⟨h1, h2, _⟩ := hc
  have e1 : (c.scratchBase ≤ p + k ∧ p + k < c.scratchBase + Config.scratchSize) ↔
      (c.scratchBase ≤ p ∧ p < c.scratchBase + Config.scratchSize) := by
    simp only [Config.scratchSize]; omega
  have e2 : p + k < c.ramWindowEnd ↔ p < c.ramWindowEnd := by omega
  have e3 : (Config.biosBase ≤ p + k ∧ p + k < Config.biosBase + Config.biosSize) ↔
      (Config.biosBase ≤ p ∧ p < Config.biosBase + Config.biosSize) := by
    simp only [Config.biosBase, Config.biosSize]; omega
  simp only [route, e1, e2, e3]

/-! ### Physical addresses -/

theorem phys_eq (a : Word) : phys a = a.toNat % 2 ^ 29 := by
  unfold phys
  rw [show (0x1FFFFFFF#32 : Word) = BitVec.ofNat 32 (2 ^ 29 - 1) by rfl, BitVec.toNat_and, BitVec.toNat_ofNat,
    Nat.mod_eq_of_lt (by decide : 2 ^ 29 - 1 < 2 ^ 32), Nat.and_two_pow_sub_one_eq_mod]

theorem phys_lt (a : Word) : phys a < 2 ^ 29 := by rw [phys_eq]; exact Nat.mod_lt _ (by decide)

/-- Inside an aligned unit of `2 ^ n` bytes, n up to 2, the physical address counts on. -/
theorem phys_add {a : Word} {n k : Nat} (hn : n = 1 ∨ n = 2 ∨ n = 4) (ha : a.toNat % n = 0) (hk : k < n) :
    phys (a + BitVec.ofNat 32 k) = phys a + k := by
  have hlt := a.isLt
  rw [phys_eq, phys_eq, BitVec.toNat_add, BitVec.toNat_ofNat]
  rcases hn with rfl | rfl | rfl <;> omega

theorem phys_mod_four {a : Word} (ha : a.toNat % 4 = 0) : phys a % 4 = 0 := by rw [phys_eq]; omega

/-! ### Storing -/

theorem Memory.wf_store {m : Memory} (h : m.wf) (iso : Bool) {l : Place} (hl : l.inBounds) (b : Byte) :
    (m.store iso l b).wf := by
  obtain ⟨h1, h2, h3⟩ := h
  unfold Memory.store
  unfold Place.inBounds at hl
  split <;> rename_i hr <;> rw [hr] at hl
  · exact ⟨h1, cellsWf_cellsWrite h2 hl b, h3⟩
  · split
    · exact ⟨h1, h2, h3⟩
    · exact ⟨cellsWf_cellsWrite h1 hl b, h2, h3⟩
  · exact ⟨h1, h2, h3⟩
  · exact ⟨h1, h2, h3⟩

theorem Memory.wf_storeAll {c : Params} {iso : Bool} {p : Nat} : ∀ (bytes : List (Nat × Byte)) {m : Memory}, m.wf →
    (m.storeAll c iso p bytes).wf
  | [], _, h => h
  | (k, b) :: rest, _, h => wf_storeAll rest (Memory.wf_store h iso (placeOf_inBounds c (p + k)) b)

theorem Memory.wf_place {m : Memory} (h : m.wf) {l : Place} (hl : l.inBounds) (b : Byte) : (m.place l b).wf := by
  obtain ⟨h1, h2, h3⟩ := h
  unfold Memory.place
  unfold Place.inBounds at hl
  split <;> rename_i hr <;> rw [hr] at hl
  · exact ⟨h1, cellsWf_cellsWrite h2 hl b, h3⟩
  · exact ⟨cellsWf_cellsWrite h1 hl b, h2, h3⟩
  · exact ⟨h1, h2, cellsWf_cellsWrite h3 hl b⟩
  · exact ⟨h1, h2, h3⟩

/-- No store changes the BIOS image (20_memory.md R223). -/
theorem Memory.bios_store (m : Memory) (iso : Bool) (l : Place) (b : Byte) : (m.store iso l b).bios = m.bios := by
  unfold Memory.store
  split <;> [rfl; (split <;> rfl); rfl; rfl]

theorem Memory.bios_storeAll {c : Params} {iso : Bool} {p : Nat} : ∀ (bytes : List (Nat × Byte)) (m : Memory),
    (m.storeAll c iso p bytes).bios = m.bios
  | [], _ => rfl
  | (_, b) :: rest, m => (bios_storeAll rest _).trans (Memory.bios_store m iso _ b)

/-- With the cache isolated no store changes RAM (20_memory.md R240). -/
theorem Memory.ram_storeAll_isolated {c : Params} {p : Nat} : ∀ (bytes : List (Nat × Byte)) (m : Memory),
    (m.storeAll c true p bytes).ram = m.ram
  | [], _ => rfl
  | (_, b) :: rest, m => (ram_storeAll_isolated rest _).trans (by unfold Memory.store; split <;> rfl)

/-- Whether a store to the place changes its byte. -/
def Place.stored (l : Place) (iso : Bool) : Bool :=
  match l.region with
  | .scratch => true
  | .ram => !iso
  | .bios => false
  | .device => false

/-- A store leaves every other place alone. -/
theorem Memory.read_store_ne (m : Memory) (iso : Bool) {l q : Place} (b : Byte) (h : q ≠ l) :
    (m.store iso l b).read q = m.read q := by
  obtain ⟨lr, li⟩ := l
  obtain ⟨qr, qi⟩ := q
  have h' : ∀ r : Region, qr = r → lr = r → li ≠ qi := by
    rintro r rfl rfl rfl; exact h rfl
  cases lr <;> cases qr <;> cases iso <;>
    first
      | rfl
      | exact congrArg some (cellsRead_cellsWrite_ne _ b (h' _ rfl rfl))

/-- A store reads back where it is taken. -/
theorem Memory.read_store_self {m : Memory} (hm : m.wf) {iso : Bool} {l : Place} (b : Byte) (h : l.stored iso = true) :
    (m.store iso l b).read l = some b := by
  obtain ⟨lr, li⟩ := l
  obtain ⟨⟨h1, _⟩, ⟨h2, _⟩, _⟩ := hm
  cases lr <;> cases iso <;>
    first
      | exact congrArg some (cellsRead_cellsWrite_self h1 li b)
      | exact congrArg some (cellsRead_cellsWrite_self h2 li b)
      | cases h

/-- A store that is not taken changes nothing. -/
theorem Memory.store_eq_of_not_stored {m : Memory} {iso : Bool} {l : Place} {b : Byte} (h : l.stored iso = false) :
    m.store iso l b = m := by
  obtain ⟨lr, li⟩ := l
  cases lr <;> cases iso <;> first | rfl | cases h

theorem Memory.read_storeAll_ne {c : Params} {iso : Bool} {p : Nat} {q : Place} :
    ∀ (bytes : List (Nat × Byte)) (m : Memory), (∀ kb ∈ bytes, q ≠ placeOf c (p + kb.1)) →
      (m.storeAll c iso p bytes).read q = m.read q
  | [], _, _ => rfl
  | (k, b) :: rest, m, h => by
    rw [Memory.storeAll, read_storeAll_ne rest _ fun kb hkb => h kb (List.mem_cons_of_mem _ hkb)]
    exact Memory.read_store_ne m iso b (h (k, b) List.mem_cons_self)

/-- Each stored byte reads back where it is taken, and a place that takes no store keeps its byte. -/
theorem Memory.read_storeAll_mem {c : Params} {iso : Bool} {p k : Nat} {b : Byte} :
    ∀ (bytes : List (Nat × Byte)) {m : Memory}, m.wf → bytes.Pairwise (fun x y => x.1 ≠ y.1) →
      (∀ kb ∈ bytes, kb.1 < 4) → (k, b) ∈ bytes →
      (m.storeAll c iso p bytes).read (placeOf c (p + k)) =
        if (placeOf c (p + k)).stored iso then some b else m.read (placeOf c (p + k))
  | [], _, _, _, _, h => by cases h
  | (j, d) :: rest, m, hm, hp, hlt, h => by
    have hp' := List.pairwise_cons.mp hp
    rw [Memory.storeAll]
    rcases List.mem_cons.mp h with e | h
    · obtain ⟨rfl, rfl⟩ := Prod.mk.inj e
      rw [Memory.read_storeAll_ne rest _ fun kb hkb =>
        placeOf_ne (hlt (k, b) List.mem_cons_self) (hlt kb (List.mem_cons_of_mem _ hkb)) (hp'.1 kb hkb)]
      split
      · next hs => exact Memory.read_store_self hm b hs
      · next hs => rw [Memory.store_eq_of_not_stored (by simpa using hs)]
    · rw [read_storeAll_mem rest (Memory.wf_store hm iso (placeOf_inBounds c (p + j)) d) hp'.2
        (fun kb hkb => hlt kb (List.mem_cons_of_mem _ hkb)) h]
      have hne : placeOf c (p + k) ≠ placeOf c (p + j) :=
        placeOf_ne (hlt (k, b) (List.mem_cons_of_mem _ h)) (hlt (j, d) List.mem_cons_self)
          (fun e => hp'.1 (k, b) h e.symm)
      rw [Memory.read_store_ne m iso d hne]

/-! ### Reading values -/

theorem Memory.read_isSome (m : Memory) (c : Params) (p : Nat) :
    (m.read (placeOf c p)).isSome = true ↔ route c p ≠ .device := by
  rw [← placeOf_region]
  unfold Memory.read
  split <;> simp_all

theorem State.byteAt_of_storedByte {s : State} {p : Nat} {b : Byte} (h : s.mem.read (placeOf s.params p) = some b) :
    s.storedByte p = b := by
  unfold State.storedByte; rw [h]; rfl

/-- The four bytes of a word put together give the word back. -/
theorem bytes_append (v : Word) : byteOf v 3 ++ byteOf v 2 ++ byteOf v 1 ++ byteOf v 0 = v := by
  apply BitVec.eq_of_getLsbD_eq
  intro i hi
  simp only [byteOf, BitVec.getLsbD_append, BitVec.getLsbD_extractLsb']
  by_cases h0 : i < 8
  · simp [h0]
  · by_cases h1 : i < 16
    · have : i - 8 < 8 := by omega
      have e : 8 + (i - 8) = i := by omega
      simp [h0, this, e]
    · by_cases h2 : i < 24
      · have a1 : ¬ i - 8 < 8 := by omega
        have a2 : i - 8 - 8 < 8 := by omega
        have e : 16 + (i - 8 - 8) = i := by omega
        simp [h0, a1, a2, e]
      · have a1 : ¬ i - 8 < 8 := by omega
        have a2 : ¬ i - 8 - 8 < 8 := by omega
        have a3 : i - 8 - 8 - 8 < 8 := by omega
        have e : 24 + (i - 8 - 8 - 8) = i := by omega
        simp [h0, a1, a2, a3, e]

end Sys2Proof.Machine
end

