-- ==== Sys2Proof/Laws/State.lean ====
section
/-! SUPPORT. One lemma per field of each update of State, and reading a register after writing one. -/

namespace Sys2Proof.Machine

/-! ### writeGpr -/

@[simp] theorem State.writeGpr_gpr (s : State) (i : Reg) (v : Word) : (s.writeGpr i v).gpr = s.gpr.set i.val v := rfl
@[simp] theorem State.writeGpr_hi (s : State) (i : Reg) (v : Word) : (s.writeGpr i v).hi = s.hi := rfl
@[simp] theorem State.writeGpr_lo (s : State) (i : Reg) (v : Word) : (s.writeGpr i v).lo = s.lo := rfl
@[simp] theorem State.writeGpr_pc (s : State) (i : Reg) (v : Word) : (s.writeGpr i v).pc = s.pc := rfl
@[simp] theorem State.writeGpr_currentPc (s : State) (i : Reg) (v : Word) : (s.writeGpr i v).currentPc = s.currentPc := rfl
@[simp] theorem State.writeGpr_ld (s : State) (i : Reg) (v : Word) : (s.writeGpr i v).ld = s.ld := rfl
@[simp] theorem State.writeGpr_bd (s : State) (i : Reg) (v : Word) : (s.writeGpr i v).bd = s.bd := rfl
@[simp] theorem State.writeGpr_slot (s : State) (i : Reg) (v : Word) : (s.writeGpr i v).slot = s.slot := rfl
@[simp] theorem State.writeGpr_hiloAge (s : State) (i : Reg) (v : Word) : (s.writeGpr i v).hiloAge = s.hiloAge := rfl
@[simp] theorem State.writeGpr_status (s : State) (i : Reg) (v : Word) : (s.writeGpr i v).status = s.status := rfl
@[simp] theorem State.writeGpr_cop0 (s : State) (i : Reg) (v : Word) : (s.writeGpr i v).cop0 = s.cop0 := rfl
@[simp] theorem State.writeGpr_mem (s : State) (i : Reg) (v : Word) : (s.writeGpr i v).mem = s.mem := rfl
@[simp] theorem State.writeGpr_events (s : State) (i : Reg) (v : Word) : (s.writeGpr i v).events = s.events := rfl
@[simp] theorem State.writeGpr_draws (s : State) (i : Reg) (v : Word) : (s.writeGpr i v).draws = s.draws := rfl
@[simp] theorem State.writeGpr_params (s : State) (i : Reg) (v : Word) : (s.writeGpr i v).params = s.params := rfl

/-! ### setHiLo -/

@[simp] theorem State.setHiLo_gpr (s : State) (h l : Word) : (s.setHiLo h l).gpr = s.gpr := rfl
@[simp] theorem State.setHiLo_hi (s : State) (h l : Word) : (s.setHiLo h l).hi = h := rfl
@[simp] theorem State.setHiLo_lo (s : State) (h l : Word) : (s.setHiLo h l).lo = l := rfl
@[simp] theorem State.setHiLo_pc (s : State) (h l : Word) : (s.setHiLo h l).pc = s.pc := rfl
@[simp] theorem State.setHiLo_currentPc (s : State) (h l : Word) : (s.setHiLo h l).currentPc = s.currentPc := rfl
@[simp] theorem State.setHiLo_ld (s : State) (h l : Word) : (s.setHiLo h l).ld = s.ld := rfl
@[simp] theorem State.setHiLo_bd (s : State) (h l : Word) : (s.setHiLo h l).bd = s.bd := rfl
@[simp] theorem State.setHiLo_slot (s : State) (h l : Word) : (s.setHiLo h l).slot = s.slot := rfl
@[simp] theorem State.setHiLo_hiloAge (s : State) (h l : Word) : (s.setHiLo h l).hiloAge = s.hiloAge := rfl
@[simp] theorem State.setHiLo_status (s : State) (h l : Word) : (s.setHiLo h l).status = s.status := rfl
@[simp] theorem State.setHiLo_cop0 (s : State) (h l : Word) : (s.setHiLo h l).cop0 = s.cop0 := rfl
@[simp] theorem State.setHiLo_mem (s : State) (h l : Word) : (s.setHiLo h l).mem = s.mem := rfl
@[simp] theorem State.setHiLo_events (s : State) (h l : Word) : (s.setHiLo h l).events = s.events := rfl
@[simp] theorem State.setHiLo_draws (s : State) (h l : Word) : (s.setHiLo h l).draws = s.draws := rfl
@[simp] theorem State.setHiLo_params (s : State) (h l : Word) : (s.setHiLo h l).params = s.params := rfl

/-! ### setCop0 -/

@[simp] theorem State.setCop0_gpr (s : State) (c : Cop0) : (s.setCop0 c).gpr = s.gpr := rfl
@[simp] theorem State.setCop0_hi (s : State) (c : Cop0) : (s.setCop0 c).hi = s.hi := rfl
@[simp] theorem State.setCop0_lo (s : State) (c : Cop0) : (s.setCop0 c).lo = s.lo := rfl
@[simp] theorem State.setCop0_pc (s : State) (c : Cop0) : (s.setCop0 c).pc = s.pc := rfl
@[simp] theorem State.setCop0_currentPc (s : State) (c : Cop0) : (s.setCop0 c).currentPc = s.currentPc := rfl
@[simp] theorem State.setCop0_ld (s : State) (c : Cop0) : (s.setCop0 c).ld = s.ld := rfl
@[simp] theorem State.setCop0_bd (s : State) (c : Cop0) : (s.setCop0 c).bd = s.bd := rfl
@[simp] theorem State.setCop0_slot (s : State) (c : Cop0) : (s.setCop0 c).slot = s.slot := rfl
@[simp] theorem State.setCop0_hiloAge (s : State) (c : Cop0) : (s.setCop0 c).hiloAge = s.hiloAge := rfl
@[simp] theorem State.setCop0_status (s : State) (c : Cop0) : (s.setCop0 c).status = s.status := rfl
@[simp] theorem State.setCop0_cop0 (s : State) (c : Cop0) : (s.setCop0 c).cop0 = c := rfl
@[simp] theorem State.setCop0_mem (s : State) (c : Cop0) : (s.setCop0 c).mem = s.mem := rfl
@[simp] theorem State.setCop0_events (s : State) (c : Cop0) : (s.setCop0 c).events = s.events := rfl
@[simp] theorem State.setCop0_draws (s : State) (c : Cop0) : (s.setCop0 c).draws = s.draws := rfl
@[simp] theorem State.setCop0_params (s : State) (c : Cop0) : (s.setCop0 c).params = s.params := rfl

/-! ### drawn -/

@[simp] theorem State.drawn_gpr (s : State) : s.drawn.gpr = s.gpr := rfl
@[simp] theorem State.drawn_hi (s : State) : s.drawn.hi = s.hi := rfl
@[simp] theorem State.drawn_lo (s : State) : s.drawn.lo = s.lo := rfl
@[simp] theorem State.drawn_pc (s : State) : s.drawn.pc = s.pc := rfl
@[simp] theorem State.drawn_currentPc (s : State) : s.drawn.currentPc = s.currentPc := rfl
@[simp] theorem State.drawn_ld (s : State) : s.drawn.ld = s.ld := rfl
@[simp] theorem State.drawn_bd (s : State) : s.drawn.bd = s.bd := rfl
@[simp] theorem State.drawn_slot (s : State) : s.drawn.slot = s.slot := rfl
@[simp] theorem State.drawn_hiloAge (s : State) : s.drawn.hiloAge = s.hiloAge := rfl
@[simp] theorem State.drawn_status (s : State) : s.drawn.status = s.status := rfl
@[simp] theorem State.drawn_cop0 (s : State) : s.drawn.cop0 = s.cop0 := rfl
@[simp] theorem State.drawn_mem (s : State) : s.drawn.mem = s.mem := rfl
@[simp] theorem State.drawn_events (s : State) : s.drawn.events = s.events := rfl
@[simp] theorem State.drawn_draws (s : State) : s.drawn.draws = s.draws + 1 := rfl
@[simp] theorem State.drawn_params (s : State) : s.drawn.params = s.params := rfl

/-! ### Register reads -/

@[simp] theorem State.x_zero (s : State) : s.x 0 = 0#32 := rfl

theorem State.x_of_ne (s : State) {r : Reg} (h : r ≠ 0) : s.x r = s.gpr[r.val] := if_neg h

/-- A register read sees the register file only. -/
theorem State.x_congr {s t : State} (h : t.gpr = s.gpr) (r : Reg) : t.x r = s.x r := by
  simp only [State.x, h]

/-- A register read after a register write. -/
theorem State.x_writeGpr (s : State) (i r : Reg) (v : Word) :
    (s.writeGpr i v).x r = if r = 0 then 0#32 else if i = r then v else s.x r := by
  by_cases h0 : r = 0
  · simp [State.x, h0]
  · by_cases h : i = r
    · subst h; simp [State.x, h0]
    · have h' : i.val ≠ r.val := fun e => h (Fin.ext e)
      simp [State.x, h0, h, h']

@[simp] theorem State.x_setHiLo (s : State) (h l : Word) (r : Reg) : (s.setHiLo h l).x r = s.x r := rfl
@[simp] theorem State.x_setCop0 (s : State) (c : Cop0) (r : Reg) : (s.setCop0 c).x r = s.x r := rfl
@[simp] theorem State.x_drawn (s : State) (r : Reg) : s.drawn.x r = s.x r := rfl

end Sys2Proof.Machine
end

