-- ==== Sys2Proof/Laws/Ops.lean ====
section
/-! SUPPORT. What each shared operation does, said once: its fields, the registers after it, and the whole step it ends. -/

namespace Sys2Proof.Machine

/-! ### applyWrite -/

@[simp] theorem State.applyWrite_hi (s : State) (e : Effect) : (s.applyWrite e).hi = s.hi := by
  unfold State.applyWrite; split <;> rfl
@[simp] theorem State.applyWrite_lo (s : State) (e : Effect) : (s.applyWrite e).lo = s.lo := by
  unfold State.applyWrite; split <;> rfl
@[simp] theorem State.applyWrite_pc (s : State) (e : Effect) : (s.applyWrite e).pc = s.pc := by
  unfold State.applyWrite; split <;> rfl
@[simp] theorem State.applyWrite_currentPc (s : State) (e : Effect) : (s.applyWrite e).currentPc = s.currentPc := by
  unfold State.applyWrite; split <;> rfl
@[simp] theorem State.applyWrite_ld (s : State) (e : Effect) : (s.applyWrite e).ld = s.ld := by
  unfold State.applyWrite; split <;> rfl
@[simp] theorem State.applyWrite_bd (s : State) (e : Effect) : (s.applyWrite e).bd = s.bd := by
  unfold State.applyWrite; split <;> rfl
@[simp] theorem State.applyWrite_slot (s : State) (e : Effect) : (s.applyWrite e).slot = s.slot := by
  unfold State.applyWrite; split <;> rfl
@[simp] theorem State.applyWrite_hiloAge (s : State) (e : Effect) : (s.applyWrite e).hiloAge = s.hiloAge := by
  unfold State.applyWrite; split <;> rfl
@[simp] theorem State.applyWrite_status (s : State) (e : Effect) : (s.applyWrite e).status = s.status := by
  unfold State.applyWrite; split <;> rfl
@[simp] theorem State.applyWrite_cop0 (s : State) (e : Effect) : (s.applyWrite e).cop0 = s.cop0 := by
  unfold State.applyWrite; split <;> rfl
@[simp] theorem State.applyWrite_mem (s : State) (e : Effect) : (s.applyWrite e).mem = s.mem := by
  unfold State.applyWrite; split <;> rfl
@[simp] theorem State.applyWrite_events (s : State) (e : Effect) : (s.applyWrite e).events = s.events := by
  unfold State.applyWrite; split <;> rfl
@[simp] theorem State.applyWrite_draws (s : State) (e : Effect) : (s.applyWrite e).draws = s.draws := by
  unfold State.applyWrite; split <;> rfl
@[simp] theorem State.applyWrite_params (s : State) (e : Effect) : (s.applyWrite e).params = s.params := by
  unfold State.applyWrite; split <;> rfl

/-! ### resolveLoad -/

@[simp] theorem State.resolveLoad_hi (s : State) (e : Effect) : (s.resolveLoad e).hi = s.hi := by
  unfold State.resolveLoad; split <;> rfl
@[simp] theorem State.resolveLoad_lo (s : State) (e : Effect) : (s.resolveLoad e).lo = s.lo := by
  unfold State.resolveLoad; split <;> rfl
@[simp] theorem State.resolveLoad_pc (s : State) (e : Effect) : (s.resolveLoad e).pc = s.pc := by
  unfold State.resolveLoad; split <;> rfl
@[simp] theorem State.resolveLoad_currentPc (s : State) (e : Effect) : (s.resolveLoad e).currentPc = s.currentPc := by
  unfold State.resolveLoad; split <;> rfl
@[simp] theorem State.resolveLoad_ld (s : State) (e : Effect) : (s.resolveLoad e).ld = s.ld := by
  unfold State.resolveLoad; split <;> rfl
@[simp] theorem State.resolveLoad_bd (s : State) (e : Effect) : (s.resolveLoad e).bd = s.bd := by
  unfold State.resolveLoad; split <;> rfl
@[simp] theorem State.resolveLoad_slot (s : State) (e : Effect) : (s.resolveLoad e).slot = s.slot := by
  unfold State.resolveLoad; split <;> rfl
@[simp] theorem State.resolveLoad_hiloAge (s : State) (e : Effect) : (s.resolveLoad e).hiloAge = s.hiloAge := by
  unfold State.resolveLoad; split <;> rfl
@[simp] theorem State.resolveLoad_status (s : State) (e : Effect) : (s.resolveLoad e).status = s.status := by
  unfold State.resolveLoad; split <;> rfl
@[simp] theorem State.resolveLoad_cop0 (s : State) (e : Effect) : (s.resolveLoad e).cop0 = s.cop0 := by
  unfold State.resolveLoad; split <;> rfl
@[simp] theorem State.resolveLoad_mem (s : State) (e : Effect) : (s.resolveLoad e).mem = s.mem := by
  unfold State.resolveLoad; split <;> rfl
@[simp] theorem State.resolveLoad_events (s : State) (e : Effect) : (s.resolveLoad e).events = s.events := by
  unfold State.resolveLoad; split <;> rfl
@[simp] theorem State.resolveLoad_draws (s : State) (e : Effect) : (s.resolveLoad e).draws = s.draws := by
  unfold State.resolveLoad; split <;> rfl
@[simp] theorem State.resolveLoad_params (s : State) (e : Effect) : (s.resolveLoad e).params = s.params := by
  unfold State.resolveLoad; split <;> rfl

/-! ### clearZero -/

@[simp] theorem State.clearZero_hi (s : State) : s.clearZero.hi = s.hi := rfl
@[simp] theorem State.clearZero_lo (s : State) : s.clearZero.lo = s.lo := rfl
@[simp] theorem State.clearZero_pc (s : State) : s.clearZero.pc = s.pc := rfl
@[simp] theorem State.clearZero_currentPc (s : State) : s.clearZero.currentPc = s.currentPc := rfl
@[simp] theorem State.clearZero_ld (s : State) : s.clearZero.ld = s.ld := rfl
@[simp] theorem State.clearZero_bd (s : State) : s.clearZero.bd = s.bd := rfl
@[simp] theorem State.clearZero_slot (s : State) : s.clearZero.slot = s.slot := rfl
@[simp] theorem State.clearZero_hiloAge (s : State) : s.clearZero.hiloAge = s.hiloAge := rfl
@[simp] theorem State.clearZero_status (s : State) : s.clearZero.status = s.status := rfl
@[simp] theorem State.clearZero_cop0 (s : State) : s.clearZero.cop0 = s.cop0 := rfl
@[simp] theorem State.clearZero_mem (s : State) : s.clearZero.mem = s.mem := rfl
@[simp] theorem State.clearZero_events (s : State) : s.clearZero.events = s.events := rfl
@[simp] theorem State.clearZero_draws (s : State) : s.clearZero.draws = s.draws := rfl
@[simp] theorem State.clearZero_params (s : State) : s.clearZero.params = s.params := rfl

/-! ### memRead -/

@[simp] theorem State.memRead_gpr (s : State) (a : Word) (w : Width) : ((s.memRead a w).2).gpr = s.gpr := by
  unfold State.memRead; split <;> rfl
@[simp] theorem State.memRead_hi (s : State) (a : Word) (w : Width) : ((s.memRead a w).2).hi = s.hi := by
  unfold State.memRead; split <;> rfl
@[simp] theorem State.memRead_lo (s : State) (a : Word) (w : Width) : ((s.memRead a w).2).lo = s.lo := by
  unfold State.memRead; split <;> rfl
@[simp] theorem State.memRead_pc (s : State) (a : Word) (w : Width) : ((s.memRead a w).2).pc = s.pc := by
  unfold State.memRead; split <;> rfl
@[simp] theorem State.memRead_currentPc (s : State) (a : Word) (w : Width) : ((s.memRead a w).2).currentPc = s.currentPc := by
  unfold State.memRead; split <;> rfl
@[simp] theorem State.memRead_ld (s : State) (a : Word) (w : Width) : ((s.memRead a w).2).ld = s.ld := by
  unfold State.memRead; split <;> rfl
@[simp] theorem State.memRead_bd (s : State) (a : Word) (w : Width) : ((s.memRead a w).2).bd = s.bd := by
  unfold State.memRead; split <;> rfl
@[simp] theorem State.memRead_slot (s : State) (a : Word) (w : Width) : ((s.memRead a w).2).slot = s.slot := by
  unfold State.memRead; split <;> rfl
@[simp] theorem State.memRead_hiloAge (s : State) (a : Word) (w : Width) : ((s.memRead a w).2).hiloAge = s.hiloAge := by
  unfold State.memRead; split <;> rfl
@[simp] theorem State.memRead_status (s : State) (a : Word) (w : Width) : ((s.memRead a w).2).status = s.status := by
  unfold State.memRead; split <;> rfl
@[simp] theorem State.memRead_cop0 (s : State) (a : Word) (w : Width) : ((s.memRead a w).2).cop0 = s.cop0 := by
  unfold State.memRead; split <;> rfl
@[simp] theorem State.memRead_mem (s : State) (a : Word) (w : Width) : ((s.memRead a w).2).mem = s.mem := by
  unfold State.memRead; split <;> rfl
@[simp] theorem State.memRead_params (s : State) (a : Word) (w : Width) : ((s.memRead a w).2).params = s.params := by
  unfold State.memRead; split <;> rfl

/-! ### memWrite -/

@[simp] theorem State.memWrite_gpr (s : State) (a : Word) (w : Width) (v : Word) : (s.memWrite a w v).gpr = s.gpr := by
  unfold State.memWrite; split <;> rfl
@[simp] theorem State.memWrite_hi (s : State) (a : Word) (w : Width) (v : Word) : (s.memWrite a w v).hi = s.hi := by
  unfold State.memWrite; split <;> rfl
@[simp] theorem State.memWrite_lo (s : State) (a : Word) (w : Width) (v : Word) : (s.memWrite a w v).lo = s.lo := by
  unfold State.memWrite; split <;> rfl
@[simp] theorem State.memWrite_pc (s : State) (a : Word) (w : Width) (v : Word) : (s.memWrite a w v).pc = s.pc := by
  unfold State.memWrite; split <;> rfl
@[simp] theorem State.memWrite_currentPc (s : State) (a : Word) (w : Width) (v : Word) : (s.memWrite a w v).currentPc = s.currentPc := by
  unfold State.memWrite; split <;> rfl
@[simp] theorem State.memWrite_ld (s : State) (a : Word) (w : Width) (v : Word) : (s.memWrite a w v).ld = s.ld := by
  unfold State.memWrite; split <;> rfl
@[simp] theorem State.memWrite_bd (s : State) (a : Word) (w : Width) (v : Word) : (s.memWrite a w v).bd = s.bd := by
  unfold State.memWrite; split <;> rfl
@[simp] theorem State.memWrite_slot (s : State) (a : Word) (w : Width) (v : Word) : (s.memWrite a w v).slot = s.slot := by
  unfold State.memWrite; split <;> rfl
@[simp] theorem State.memWrite_hiloAge (s : State) (a : Word) (w : Width) (v : Word) : (s.memWrite a w v).hiloAge = s.hiloAge := by
  unfold State.memWrite; split <;> rfl
@[simp] theorem State.memWrite_status (s : State) (a : Word) (w : Width) (v : Word) : (s.memWrite a w v).status = s.status := by
  unfold State.memWrite; split <;> rfl
@[simp] theorem State.memWrite_cop0 (s : State) (a : Word) (w : Width) (v : Word) : (s.memWrite a w v).cop0 = s.cop0 := by
  unfold State.memWrite; split <;> rfl
@[simp] theorem State.memWrite_draws (s : State) (a : Word) (w : Width) (v : Word) : (s.memWrite a w v).draws = s.draws := by
  unfold State.memWrite; split <;> rfl
@[simp] theorem State.memWrite_params (s : State) (a : Word) (w : Width) (v : Word) : (s.memWrite a w v).params = s.params := by
  unfold State.memWrite; split <;> rfl

/-! ### memWriteMasked -/

@[simp] theorem State.memWriteMasked_gpr (s : State) (a v : Word) (mask : BitVec 4) : (s.memWriteMasked a v mask).gpr = s.gpr := by
  unfold State.memWriteMasked; split <;> rfl
@[simp] theorem State.memWriteMasked_hi (s : State) (a v : Word) (mask : BitVec 4) : (s.memWriteMasked a v mask).hi = s.hi := by
  unfold State.memWriteMasked; split <;> rfl
@[simp] theorem State.memWriteMasked_lo (s : State) (a v : Word) (mask : BitVec 4) : (s.memWriteMasked a v mask).lo = s.lo := by
  unfold State.memWriteMasked; split <;> rfl
@[simp] theorem State.memWriteMasked_pc (s : State) (a v : Word) (mask : BitVec 4) : (s.memWriteMasked a v mask).pc = s.pc := by
  unfold State.memWriteMasked; split <;> rfl
@[simp] theorem State.memWriteMasked_currentPc (s : State) (a v : Word) (mask : BitVec 4) : (s.memWriteMasked a v mask).currentPc = s.currentPc := by
  unfold State.memWriteMasked; split <;> rfl
@[simp] theorem State.memWriteMasked_ld (s : State) (a v : Word) (mask : BitVec 4) : (s.memWriteMasked a v mask).ld = s.ld := by
  unfold State.memWriteMasked; split <;> rfl
@[simp] theorem State.memWriteMasked_bd (s : State) (a v : Word) (mask : BitVec 4) : (s.memWriteMasked a v mask).bd = s.bd := by
  unfold State.memWriteMasked; split <;> rfl
@[simp] theorem State.memWriteMasked_slot (s : State) (a v : Word) (mask : BitVec 4) : (s.memWriteMasked a v mask).slot = s.slot := by
  unfold State.memWriteMasked; split <;> rfl
@[simp] theorem State.memWriteMasked_hiloAge (s : State) (a v : Word) (mask : BitVec 4) : (s.memWriteMasked a v mask).hiloAge = s.hiloAge := by
  unfold State.memWriteMasked; split <;> rfl
@[simp] theorem State.memWriteMasked_status (s : State) (a v : Word) (mask : BitVec 4) : (s.memWriteMasked a v mask).status = s.status := by
  unfold State.memWriteMasked; split <;> rfl
@[simp] theorem State.memWriteMasked_cop0 (s : State) (a v : Word) (mask : BitVec 4) : (s.memWriteMasked a v mask).cop0 = s.cop0 := by
  unfold State.memWriteMasked; split <;> rfl
@[simp] theorem State.memWriteMasked_draws (s : State) (a v : Word) (mask : BitVec 4) : (s.memWriteMasked a v mask).draws = s.draws := by
  unfold State.memWriteMasked; split <;> rfl
@[simp] theorem State.memWriteMasked_params (s : State) (a v : Word) (mask : BitVec 4) : (s.memWriteMasked a v mask).params = s.params := by
  unfold State.memWriteMasked; split <;> rfl

/-! ### cop0Read -/

@[simp] theorem State.cop0Read_gpr (s : State) (i : CopReg) : ((s.cop0Read i).2).gpr = s.gpr := by
  unfold State.cop0Read; split <;> rfl
@[simp] theorem State.cop0Read_hi (s : State) (i : CopReg) : ((s.cop0Read i).2).hi = s.hi := by
  unfold State.cop0Read; split <;> rfl
@[simp] theorem State.cop0Read_lo (s : State) (i : CopReg) : ((s.cop0Read i).2).lo = s.lo := by
  unfold State.cop0Read; split <;> rfl
@[simp] theorem State.cop0Read_pc (s : State) (i : CopReg) : ((s.cop0Read i).2).pc = s.pc := by
  unfold State.cop0Read; split <;> rfl
@[simp] theorem State.cop0Read_currentPc (s : State) (i : CopReg) : ((s.cop0Read i).2).currentPc = s.currentPc := by
  unfold State.cop0Read; split <;> rfl
@[simp] theorem State.cop0Read_ld (s : State) (i : CopReg) : ((s.cop0Read i).2).ld = s.ld := by
  unfold State.cop0Read; split <;> rfl
@[simp] theorem State.cop0Read_bd (s : State) (i : CopReg) : ((s.cop0Read i).2).bd = s.bd := by
  unfold State.cop0Read; split <;> rfl
@[simp] theorem State.cop0Read_slot (s : State) (i : CopReg) : ((s.cop0Read i).2).slot = s.slot := by
  unfold State.cop0Read; split <;> rfl
@[simp] theorem State.cop0Read_hiloAge (s : State) (i : CopReg) : ((s.cop0Read i).2).hiloAge = s.hiloAge := by
  unfold State.cop0Read; split <;> rfl
@[simp] theorem State.cop0Read_status (s : State) (i : CopReg) : ((s.cop0Read i).2).status = s.status := by
  unfold State.cop0Read; split <;> rfl
@[simp] theorem State.cop0Read_cop0 (s : State) (i : CopReg) : ((s.cop0Read i).2).cop0 = s.cop0 := by
  unfold State.cop0Read; split <;> rfl
@[simp] theorem State.cop0Read_mem (s : State) (i : CopReg) : ((s.cop0Read i).2).mem = s.mem := by
  unfold State.cop0Read; split <;> rfl
@[simp] theorem State.cop0Read_events (s : State) (i : CopReg) : ((s.cop0Read i).2).events = s.events := by
  unfold State.cop0Read; split <;> rfl
@[simp] theorem State.cop0Read_params (s : State) (i : CopReg) : ((s.cop0Read i).2).params = s.params := by
  unfold State.cop0Read; split <;> rfl

/-! ### cop0Write -/

@[simp] theorem State.cop0Write_gpr (s : State) (i : CopReg) (v : Word) : (s.cop0Write i v).gpr = s.gpr := by
  unfold State.cop0Write; split <;> rfl
@[simp] theorem State.cop0Write_hi (s : State) (i : CopReg) (v : Word) : (s.cop0Write i v).hi = s.hi := by
  unfold State.cop0Write; split <;> rfl
@[simp] theorem State.cop0Write_lo (s : State) (i : CopReg) (v : Word) : (s.cop0Write i v).lo = s.lo := by
  unfold State.cop0Write; split <;> rfl
@[simp] theorem State.cop0Write_pc (s : State) (i : CopReg) (v : Word) : (s.cop0Write i v).pc = s.pc := by
  unfold State.cop0Write; split <;> rfl
@[simp] theorem State.cop0Write_currentPc (s : State) (i : CopReg) (v : Word) : (s.cop0Write i v).currentPc = s.currentPc := by
  unfold State.cop0Write; split <;> rfl
@[simp] theorem State.cop0Write_ld (s : State) (i : CopReg) (v : Word) : (s.cop0Write i v).ld = s.ld := by
  unfold State.cop0Write; split <;> rfl
@[simp] theorem State.cop0Write_bd (s : State) (i : CopReg) (v : Word) : (s.cop0Write i v).bd = s.bd := by
  unfold State.cop0Write; split <;> rfl
@[simp] theorem State.cop0Write_slot (s : State) (i : CopReg) (v : Word) : (s.cop0Write i v).slot = s.slot := by
  unfold State.cop0Write; split <;> rfl
@[simp] theorem State.cop0Write_hiloAge (s : State) (i : CopReg) (v : Word) : (s.cop0Write i v).hiloAge = s.hiloAge := by
  unfold State.cop0Write; split <;> rfl
@[simp] theorem State.cop0Write_status (s : State) (i : CopReg) (v : Word) : (s.cop0Write i v).status = s.status := by
  unfold State.cop0Write; split <;> rfl
@[simp] theorem State.cop0Write_mem (s : State) (i : CopReg) (v : Word) : (s.cop0Write i v).mem = s.mem := by
  unfold State.cop0Write; split <;> rfl
@[simp] theorem State.cop0Write_events (s : State) (i : CopReg) (v : Word) : (s.cop0Write i v).events = s.events := by
  unfold State.cop0Write; split <;> rfl
@[simp] theorem State.cop0Write_draws (s : State) (i : CopReg) (v : Word) : (s.cop0Write i v).draws = s.draws := by
  unfold State.cop0Write; split <;> rfl
@[simp] theorem State.cop0Write_params (s : State) (i : CopReg) (v : Word) : (s.cop0Write i v).params = s.params := by
  unfold State.cop0Write; split <;> rfl

/-! ### retire -/

@[simp] theorem State.retire_hi (s : State) (e : Effect) : (s.retire e).hi = s.hi := by
  simp only [State.retire, State.clearZero_hi, State.resolveLoad_hi, State.applyWrite_hi]
@[simp] theorem State.retire_lo (s : State) (e : Effect) : (s.retire e).lo = s.lo := by
  simp only [State.retire, State.clearZero_lo, State.resolveLoad_lo, State.applyWrite_lo]
@[simp] theorem State.retire_currentPc (s : State) (e : Effect) : (s.retire e).currentPc = s.currentPc := by
  simp only [State.retire, State.clearZero_currentPc, State.resolveLoad_currentPc, State.applyWrite_currentPc]
@[simp] theorem State.retire_status (s : State) (e : Effect) : (s.retire e).status = s.status := by
  simp only [State.retire, State.clearZero_status, State.resolveLoad_status, State.applyWrite_status]
@[simp] theorem State.retire_cop0 (s : State) (e : Effect) : (s.retire e).cop0 = s.cop0 := by
  simp only [State.retire, State.clearZero_cop0, State.resolveLoad_cop0, State.applyWrite_cop0]
@[simp] theorem State.retire_mem (s : State) (e : Effect) : (s.retire e).mem = s.mem := by
  simp only [State.retire, State.clearZero_mem, State.resolveLoad_mem, State.applyWrite_mem]
@[simp] theorem State.retire_events (s : State) (e : Effect) : (s.retire e).events = s.events := by
  simp only [State.retire, State.clearZero_events, State.resolveLoad_events, State.applyWrite_events]
@[simp] theorem State.retire_draws (s : State) (e : Effect) : (s.retire e).draws = s.draws := by
  simp only [State.retire, State.clearZero_draws, State.resolveLoad_draws, State.applyWrite_draws]
@[simp] theorem State.retire_params (s : State) (e : Effect) : (s.retire e).params = s.params := by
  simp only [State.retire, State.clearZero_params, State.resolveLoad_params, State.applyWrite_params]

@[simp] theorem State.retire_ld (s : State) (e : Effect) : (s.retire e).ld = s.ld.after e := rfl
@[simp] theorem State.retire_slot (s : State) (e : Effect) : (s.retire e).slot = e.branch := rfl
@[simp] theorem State.retire_hiloAge (s : State) (e : Effect) :
    (s.retire e).hiloAge = if e.readsHiLo then 0 else ageOlder s.hiloAge := rfl
theorem State.retire_pc (s : State) (e : Effect) :
    (s.retire e).pc = if s.bd.pending then (s.bd.after e).target else s.pc := rfl
theorem State.retire_bd (s : State) (e : Effect) :
    (s.retire e).bd = if s.bd.pending then { s.bd.after e with pending := false } else s.bd.after e := rfl
theorem State.retire_gpr (s : State) (e : Effect) :
    (s.retire e).gpr = (((s.applyWrite e).resolveLoad e).clearZero).gpr := rfl

/-! ### takeException -/

@[simp] theorem State.takeException_hi (s : State) (e : Exc) (v : Word) : (s.takeException e v).hi = s.hi := by
  simp only [State.takeException, State.clearZero_hi, State.resolveLoad_hi]
@[simp] theorem State.takeException_lo (s : State) (e : Exc) (v : Word) : (s.takeException e v).lo = s.lo := by
  simp only [State.takeException, State.clearZero_lo, State.resolveLoad_lo]
@[simp] theorem State.takeException_currentPc (s : State) (e : Exc) (v : Word) : (s.takeException e v).currentPc = s.currentPc := by
  simp only [State.takeException, State.clearZero_currentPc, State.resolveLoad_currentPc]
@[simp] theorem State.takeException_status (s : State) (e : Exc) (v : Word) : (s.takeException e v).status = s.status := by
  simp only [State.takeException, State.clearZero_status, State.resolveLoad_status]
@[simp] theorem State.takeException_mem (s : State) (e : Exc) (v : Word) : (s.takeException e v).mem = s.mem := by
  simp only [State.takeException, State.clearZero_mem, State.resolveLoad_mem]
@[simp] theorem State.takeException_events (s : State) (e : Exc) (v : Word) : (s.takeException e v).events = s.events := by
  simp only [State.takeException, State.clearZero_events, State.resolveLoad_events]
@[simp] theorem State.takeException_params (s : State) (e : Exc) (v : Word) : (s.takeException e v).params = s.params := by
  simp only [State.takeException, State.clearZero_params, State.resolveLoad_params]

@[simp] theorem State.takeException_pc (s : State) (e : Exc) (v : Word) :
    (s.takeException e v).pc = generalVector s.cop0.sr := rfl
@[simp] theorem State.takeException_ld (s : State) (e : Exc) (v : Word) :
    (s.takeException e v).ld = { s.ld with pending := false } := rfl
@[simp] theorem State.takeException_bd (s : State) (e : Exc) (v : Word) :
    (s.takeException e v).bd = { s.bd with pending := false } := rfl
@[simp] theorem State.takeException_slot (s : State) (e : Exc) (v : Word) : (s.takeException e v).slot = false := rfl
@[simp] theorem State.takeException_hiloAge (s : State) (e : Exc) (v : Word) :
    (s.takeException e v).hiloAge = ageOlder s.hiloAge := rfl
@[simp] theorem State.takeException_cop0 (s : State) (e : Exc) (v : Word) :
    (s.takeException e v).cop0 = s.entryCop0 e v := rfl
theorem State.takeException_gpr (s : State) (e : Exc) (v : Word) :
    (s.takeException e v).gpr = ((s.resolveLoad { }).clearZero).gpr := rfl

/-! ### Registers after a step -/

theorem State.x_clearZero (s : State) (r : Reg) : s.clearZero.x r = s.x r := by
  rw [State.clearZero, State.x_writeGpr]
  by_cases h : r = 0
  · simp [h]
  · simp [h, Ne.symm h]

theorem State.x_resolveLoad (s : State) (e : Effect) (r : Reg) :
    (s.resolveLoad e).x r = if e.targets r then s.x r else s.arrived r := by
  unfold State.resolveLoad State.arrived
  by_cases h0 : r = 0
  · split <;> simp [h0]
  · by_cases hr : s.ld.reg = r
    · subst hr
      cases hp : s.ld.pending <;> cases ht : e.targets s.ld.reg <;> simp [h0, State.x_writeGpr]
    · split <;> simp [h0, hr, State.x_writeGpr]

theorem State.x_applyWrite (s : State) (e : Effect) (r : Reg) :
    (s.applyWrite e).x r = match e.write with
      | some (i, v) => if r = 0 then 0#32 else if i = r then v else s.x r
      | none => s.x r := by
  unfold State.applyWrite
  cases e.write with
  | none => rfl
  | some p => exact State.x_writeGpr s p.1 r p.2

/-- What a register holds once the load of the previous step has arrived, after the instruction's own write. -/
theorem State.arrived_applyWrite (s : State) (e : Effect) {r : Reg} (h : e.targets r = false) :
    (s.applyWrite e).arrived r = s.arrived r := by
  unfold State.arrived
  rw [State.applyWrite_ld, State.x_applyWrite]
  unfold Effect.targets at h
  cases hw : e.write with
  | none => rfl
  | some p =>
    have hp : p.1 ≠ r := by
      intro hp; simp [hw, hp] at h
    simp only [hp, if_false]
    split <;> simp_all

/-- Every register after a step that completes. -/
theorem State.x_retire (s : State) (e : Effect) (r : Reg) :
    (s.retire e).x r = if e.targets r then (s.applyWrite e).x r else s.arrived r := by
  rw [State.x_congr (State.retire_gpr s e), State.x_clearZero, State.x_resolveLoad]
  by_cases h : e.targets r = true
  · simp [h]
  · simp only [Bool.not_eq_true] at h
    simp [h, State.arrived_applyWrite s e h]

@[simp] theorem State.arrived_zero (s : State) : s.arrived 0 = 0#32 := rfl

/-- What arrives depends on the register file and the load latch only. -/
theorem State.arrived_congr {s t : State} (hg : t.gpr = s.gpr) (hl : t.ld = s.ld) (r : Reg) : t.arrived r = s.arrived r := by
  simp only [State.arrived, hl, State.x_congr hg]

theorem ages_ageOlder (a : Fin 3) : (ageOlder a).val = min (a.val + 1) 2 := by
  revert a; decide

/-- A step that writes no register directly and loads none. -/
theorem State.writesNoReg_retire (s : State) {e : Effect} (hw : e.write = none) (hl : e.load = none) :
    WritesNoReg s (s.retire e) := by
  refine ⟨fun r => ?_, ?_⟩
  · rw [State.x_retire]
    simp [Effect.targets, hw, hl]
  · simp [LoadLatch.after, hl]

/-- A step that writes register d directly. -/
theorem State.writesReg_retire (s : State) {e : Effect} {d : Reg} {v : Word} (hw : e.write = some (d, v))
    (hl : e.load = none) : WritesReg s (s.retire e) d v := by
  refine ⟨?_, fun r hr => ?_, ?_⟩
  · rw [State.x_retire, State.x_applyWrite, hw]
    simp [Effect.targets, hw]
  · rw [State.x_retire]
    have : d ≠ r := Ne.symm hr
    simp [Effect.targets, hw, hl, this]
  · simp [LoadLatch.after, hl]

/-- A step that loads register d. -/
theorem State.loadsReg_retire (s : State) {e : Effect} {d : Reg} {v : Word} (hw : e.write = none)
    (hl : e.load = some (d, v)) : LoadsReg s (s.retire e) d v := by
  refine ⟨?_, ?_, fun r hr => ?_⟩
  · simp [LoadLatch.after, hl]
  · rw [State.x_retire, State.x_applyWrite, hw]
    simp [Effect.targets, hl]
  · rw [State.x_retire]
    have : d ≠ r := Ne.symm hr
    simp [Effect.targets, hw, hl, this]

/-- A step that is no branch. -/
theorem State.falls_retire (s : State) {e : Effect} (hj : e.jump = none) (hb : e.branch = false) :
    Falls s (s.retire e) := by
  refine ⟨?_, ?_, ?_⟩
  · simp [State.retire_pc, BranchLatch.after, hj]
  · rw [State.retire_bd]
    cases h : s.bd.pending <;> simp [BranchLatch.after, hj, h]
  · simp [hb]

/-- A branch from a state with none pending. -/
theorem State.branches_retire (s : State) {e : Effect} (hp : s.bd.pending = false) (hb : e.branch = true) :
    Branches s (s.retire e) e.jump := by
  refine ⟨?_, ?_, ?_⟩
  · simp [State.retire_pc, hp]
  · simp [hb]
  · rw [State.retire_bd]
    cases hj : e.jump <;> simp [BranchLatch.after, hj, hp]

theorem State.ages_retire (s : State) {e : Effect} (h : e.readsHiLo = false) : Ages s (s.retire e) := by
  unfold Ages
  rw [State.retire_hiloAge, h]
  exact ages_ageOlder _

/-- Equal byte arrays under equal parameters read alike. -/
theorem State.byteAt_congr {s t : State} (hm : t.mem = s.mem) (hp : t.params = s.params) (a : Word) :
    t.byteAt a = s.byteAt a := by simp only [State.byteAt, hm, hp]

theorem keepsMemory_of {s t : State} (hm : t.mem = s.mem) (hp : t.params = s.params) (he : t.events = s.events) :
    KeepsMemory s t := ⟨State.byteAt_congr hm hp, he⟩

theorem State.keepsMemory_retire (s : State) (e : Effect) : KeepsMemory s (s.retire e) :=
  keepsMemory_of (by simp) (by simp) (by simp)

theorem State.keepsBook_retire (s : State) (e : Effect) : KeepsBook s (s.retire e) := ⟨by simp, by simp, by simp⟩

/-- `completeWrite` ends in a step that wrote one register and nothing else. -/
theorem State.completeWrite_spec (s : State) (d : Reg) (v : Word) :
    ∃ t, s.completeWrite d v = .next t ∧ RegisterStep s t d v :=
  ⟨_, rfl, {
    regs := s.writesReg_retire rfl rfl
    control := s.falls_retire rfl rfl
    age := s.ages_retire rfl
    hilo := ⟨by simp, by simp⟩
    cop0 := by simp [KeepsCop0]
    memory := s.keepsMemory_retire _
    book := s.keepsBook_retire _
    draws := by simp }⟩

/-- `completeHiLo`, where the hazard check passes, ends in a step that wrote HI and LO and nothing else. -/
theorem State.completeHiLo_spec {s : State} (hb : s.hiloBlocked = false) (h l : Word) :
    ∃ t, s.completeHiLo h l = .next t ∧ HiLoStep s t h l := by
  refine ⟨(s.setHiLo h l).retire { }, by simp [State.completeHiLo, hb, State.complete], ?_⟩
  have hx := (s.setHiLo h l).writesNoReg_retire (e := { }) rfl rfl
  exact {
    hi := by simp
    lo := by simp
    regs := ⟨fun r => hx.1 r, hx.2⟩
    control := (s.setHiLo h l).falls_retire rfl rfl
    age := (s.setHiLo h l).ages_retire rfl
    cop0 := by simp [KeepsCop0]
    memory := keepsMemory_of (by simp) (by simp) (by simp)
    book := ⟨by simp, by simp, by simp⟩
    draws := by simp }

/-- `completeBranch` outside a slot, with no branch pending. -/
theorem State.completeBranch_spec {s : State} (hs : s.slot = false) (hp : s.bd.pending = false) {e : Effect}
    (hl : e.load = none) (hr : e.readsHiLo = false) {link : Option Reg}
    (hw : e.write = link.map fun d => (d, s.currentPc + 8#32)) :
    ∃ t, s.completeBranch e = .next t ∧ BranchStep s t link e.jump := by
  refine ⟨s.retire { e with branch := true }, by simp [State.completeBranch, hs, State.complete], ?_⟩
  exact {
    regs := by
      cases link with
      | none => exact s.writesNoReg_retire hw hl
      | some d => exact s.writesReg_retire hw hl
    control := s.branches_retire (e := { e with branch := true }) hp rfl
    age := s.ages_retire hr
    hilo := ⟨by simp, by simp⟩
    cop0 := by simp [KeepsCop0]
    memory := s.keepsMemory_retire _
    book := s.keepsBook_retire _
    draws := by simp }

/-- A step that ends with nothing asked, from a state whose COP0 bank alone was changed. -/
theorem State.cop0Step_of {s u : State} (hg : u.gpr = s.gpr) (hld : u.ld = s.ld) (hbd : u.bd = s.bd) (hpc : u.pc = s.pc)
    (ha : u.hiloAge = s.hiloAge) (hh : u.hi = s.hi ∧ u.lo = s.lo) (hm : u.mem = s.mem) (he : u.events = s.events)
    (hb : KeepsBook s u) (hd : u.draws = s.draws) : Cop0Step s (u.retire { }) u.cop0 := by
  have hx := u.writesNoReg_retire (e := { }) rfl rfl
  have hf := u.falls_retire (e := { }) rfl rfl
  exact {
    bank := by simp
    regs := ⟨fun r => (hx.1 r).trans (State.arrived_congr hg hld r), hx.2⟩
    control := ⟨by rw [hf.1, hbd, hpc], hf.2.1, hf.2.2⟩
    age := by unfold Ages; rw [u.ages_retire (e := { }) rfl, ha]
    hilo := ⟨by simp [hh.1], by simp [hh.2]⟩
    memory := keepsMemory_of (by simp [hm]) (by simp [hb.2.2]) (by simp [he])
    book := ⟨by simp [hb.1], by simp [hb.2.1], by simp [hb.2.2]⟩
    draws := by simp [hd] }

/-! ### Exceptions -/

theorem Sr.push_low (sr : Word) : (Sr.push sr).extractLsb' 0 6 = sr.extractLsb' 0 4 ++ 0#2 := by
  apply BitVec.eq_of_getLsbD_eq
  intro i hi
  simp only [Sr.push, BitVec.getLsbD_extractLsb', BitVec.getLsbD_append]
  interval_cases i <;> simp

theorem Sr.push_high (sr : Word) : (Sr.push sr).extractLsb' 6 26 = sr.extractLsb' 6 26 := by
  apply BitVec.eq_of_getLsbD_eq
  intro i hi
  simp only [Sr.push, BitVec.getLsbD_extractLsb']
  interval_cases i <;> simp

theorem Cause.enter_excCode (c : Word) (code : BitVec 5) (ce : BitVec 2) (bd : Bool) :
    Cause.excCode (Cause.enter c code ce bd) = code := by
  apply BitVec.eq_of_getLsbD_eq
  intro i hi
  simp only [Cause.excCode, Cause.enter, BitVec.getLsbD_extractLsb']
  interval_cases i <;> simp

theorem Cause.enter_ce (c : Word) (code : BitVec 5) (ce : BitVec 2) (bd : Bool) :
    Cause.ce (Cause.enter c code ce bd) = ce := by
  apply BitVec.eq_of_getLsbD_eq
  intro i hi
  simp only [Cause.ce, Cause.enter, BitVec.getLsbD_extractLsb']
  interval_cases i <;> simp

theorem Cause.enter_bd (c : Word) (code : BitVec 5) (ce : BitVec 2) (bd : Bool) :
    Cause.bd (Cause.enter c code ce bd) = bd := by
  simp [Cause.bd, Cause.enter]

theorem Cause.enter_low (c : Word) (code : BitVec 5) (ce : BitVec 2) (bd : Bool) :
    (Cause.enter c code ce bd).extractLsb' 0 2 = c.extractLsb' 0 2 := by
  apply BitVec.eq_of_getLsbD_eq
  intro i hi
  simp only [Cause.enter, BitVec.getLsbD_extractLsb']
  interval_cases i <;> simp

theorem Cause.enter_mid (c : Word) (code : BitVec 5) (ce : BitVec 2) (bd : Bool) :
    (Cause.enter c code ce bd).extractLsb' 7 21 = c.extractLsb' 7 21 := by
  apply BitVec.eq_of_getLsbD_eq
  intro i hi
  simp only [Cause.enter, BitVec.getLsbD_extractLsb']
  interval_cases i <;> simp

theorem Cause.enter_high (c : Word) (code : BitVec 5) (ce : BitVec 2) (bd : Bool) :
    (Cause.enter c code ce bd).extractLsb' 30 1 = c.extractLsb' 30 1 := by
  apply BitVec.eq_of_getLsbD_eq
  intro i hi
  simp only [Cause.enter, BitVec.getLsbD_extractLsb']
  interval_cases i; simp

/-- Every exception enters as R1020 says. -/
theorem State.takeException_spec (s : State) (e : Exc) (v : Word) : Entered s (s.takeException e v) e.code v where
  status := by simp [State.entryCop0, Sr.push_low]
  statusRest := by simp [State.entryCop0, Sr.push_high]
  excCode := by simp [State.entryCop0, Cause.enter_excCode]
  branchDelay := by simp [State.entryCop0, Cause.enter_bd]
  causeLow := by simp [State.entryCop0, Cause.enter_low]
  causeMid := by simp [State.entryCop0, Cause.enter_mid]
  causeHigh := by simp [State.entryCop0, Cause.enter_high]
  epc := by simp [State.entryCop0, State.entryEpc]
  pc := by simp [generalVector, Sr.bev]
  branch := ⟨by simp, by simp⟩
  regs := by
    refine ⟨fun r => ?_, by simp⟩
    rw [State.x_congr (State.takeException_gpr s e v), State.x_clearZero, State.x_resolveLoad]
    simp [Effect.targets]
  age := by simp [Ages, ages_ageOlder]
  hilo := ⟨by simp, by simp⟩
  other := ⟨by simp [State.entryCop0], by simp [State.entryCop0]⟩
  memory := keepsMemory_of (by simp) (by simp) (by simp)
  book := ⟨by simp, by simp, by simp⟩

/-! ### Memory accesses -/

theorem State.byteAt_isSome (s : State) (a : Word) : (s.byteAt a).isSome = true ↔ s.regionOf a ≠ .device :=
  Memory.read_isSome s.mem s.params (phys a)

/-- A read of stored bytes changes nothing and answers their little-endian value. -/
theorem State.memRead_stored {s : State} {a : Word} (h : s.regionOf a ≠ .device) (w : Width) :
    s.memRead a w = (s.storedValue (phys a) w, s) := by
  unfold State.memRead
  unfold State.regionOf at h
  cases hr : route s.params (phys a) <;> simp_all

theorem State.regionOf_of_byteAt {s : State} {a : Word} {b : Byte} (h : s.byteAt a = some b) : s.regionOf a ≠ .device :=
  (s.byteAt_isSome a).mp (by simp [h])

/-- A byte read. -/
theorem State.memRead_byte {s : State} {a : Word} {b : Byte} (h : s.byteAt a = some b) :
    s.memRead a .byte = (b.setWidth 32, s) := by
  rw [State.memRead_stored (State.regionOf_of_byteAt h)]
  unfold State.byteAt at h
  simp only [State.storedValue, State.byteAt_of_storedByte h]

theorem isAligned_half {a : Word} (h : isAligned .half a = true) : a.toNat % 2 = 0 := by
  have := congrArg BitVec.toNat (beq_iff_eq.mp h)
  simpa using this

theorem isAligned_word {a : Word} (h : isAligned .word a = true) : a.toNat % 4 = 0 := by
  have := congrArg BitVec.toNat (beq_iff_eq.mp h)
  simpa using this

/-- A halfword read. -/
theorem State.memRead_half {s : State} {a : Word} {v : BitVec 16} (ha : isAligned .half a = true) (h : s.holdsHalf a v) :
    s.memRead a .half = (v.setWidth 32, s) := by
  obtain ⟨h0, h1⟩ := h
  rw [State.memRead_stored (State.regionOf_of_byteAt h0)]
  unfold State.byteAt at h0 h1
  have e1 : phys (a + 1#32) = phys a + 1 := phys_add (n := 2) (k := 1) (by simp) (isAligned_half ha) (by decide)
  rw [e1] at h1
  simp only [State.storedValue, State.byteAt_of_storedByte h0, State.byteAt_of_storedByte h1]
  have : v.extractLsb' 8 8 ++ v.extractLsb' 0 8 = v := by
    apply BitVec.eq_of_getLsbD_eq
    intro i hi
    simp only [BitVec.getLsbD_append, BitVec.getLsbD_extractLsb']
    by_cases h0 : i < 8
    · simp [h0]
    · have e : 8 + (i - 8) = i := by omega
      have e' : i - 8 < 8 := by omega
      simp [h0, e, e']
  exact congrArg (fun x : BitVec 16 => (x.setWidth 32, s)) this

/-- A word read at an aligned address. -/
theorem State.memRead_word {s : State} {a v : Word} (ha : a.toNat % 4 = 0) (h : s.holdsWord a v) :
    s.memRead a .word = (v, s) := by
  have h0 : s.byteAt a = some (byteOf v 0) := by simpa using h 0 (by decide)
  rw [State.memRead_stored (State.regionOf_of_byteAt h0)]
  have hb : ∀ k, k < 4 → s.storedByte (phys a + k) = byteOf v k := fun k hk => by
    have := h k hk
    unfold State.byteAt at this
    rw [phys_add (n := 4) (by simp) ha hk] at this
    exact State.byteAt_of_storedByte this
  have b0 : s.storedByte (phys a) = byteOf v 0 := hb 0 (by decide)
  simp only [State.storedValue, b0, hb 1 (by decide), hb 2 (by decide), hb 3 (by decide), bytes_append]

/-- A device read draws the oracle's answer and is recorded. -/
theorem State.memRead_device {s : State} {a : Word} (h : s.regionOf a = .device) (w : Width) :
    s.memRead a w = (lowBytes w (Config.deviceRead s.draws (phys a) w.bytes),
      { s.drawn with events := .read (phys a) w (lowBytes w (Config.deviceRead s.draws (phys a) w.bytes)) :: s.events }) := by
  unfold State.memRead
  unfold State.regionOf at h
  rw [h]

theorem stored_placeOf (s : State) (a : Word) :
    (placeOf s.params (phys a)).stored (Sr.isC s.cop0.sr) = s.takesStores a := by
  cases h : route s.params (phys a) <;> simp [Place.stored, State.takesStores, State.regionOf, placeOf_region, h]

/-- Storing a list of bytes at offsets of one aligned unit. -/
theorem State.storesBytes_of {s t : State} {a : Word} {n : Nat} (hn : n = 1 ∨ n = 2 ∨ n = 4) (ha : a.toNat % n = 0)
    (hm : s.mem.wf) (hp : t.params = s.params) {bytes : List (Nat × Byte)} {on : Nat → Bool} {byte : Nat → Byte}
    (ht : t.mem = s.mem.storeAll s.params (Sr.isC s.cop0.sr) (phys a) bytes)
    (hpw : bytes.Pairwise (fun x y => x.1 ≠ y.1))
    (hb : ∀ kb : Nat × Byte, kb ∈ bytes ↔ kb.1 < n ∧ on kb.1 = true ∧ kb.2 = byte kb.1) : StoresBytes s t a n on byte := by
  have hlt : ∀ kb ∈ bytes, kb.1 < 4 := fun kb h => by have := ((hb kb).mp h).1; omega
  have key : ∀ k, k < n → on k = true → t.byteAt (a + BitVec.ofNat 32 k) =
      if s.takesStores (a + BitVec.ofNat 32 k) then some (byte k) else s.byteAt (a + BitVec.ofNat 32 k) := by
    intro k hk hon
    rw [← stored_placeOf]
    unfold State.byteAt
    rw [ht, hp, phys_add hn ha hk]
    exact Memory.read_storeAll_mem bytes hm hpw hlt ((hb (k, byte k)).mpr ⟨hk, hon, rfl⟩)
  refine ⟨fun k hk hon h => by rw [key k hk hon, h]; simp, fun k hk hon h => by rw [key k hk hon, h]; simp, ?_⟩
  intro b hne
  unfold State.byteAt
  rw [ht, hp]
  refine Memory.read_storeAll_ne bytes s.mem fun kb hkb e => ?_
  obtain ⟨h1, h2, _⟩ := (hb kb).mp hkb
  refine hne kb.1 h1 h2 ?_
  unfold State.sameByte
  rw [phys_add hn ha h1]
  exact e

theorem StoresBytes.congr {s t u : State} {a : Word} {n : Nat} {on : Nat → Bool} {byte : Nat → Byte}
    (h : StoresBytes s u a n on byte) (hm : t.mem = u.mem) (hp : t.params = u.params) : StoresBytes s t a n on byte := by
  have e := State.byteAt_congr hm hp
  exact ⟨fun k hk ho ht => (e _).trans (h.1 k hk ho ht), fun k hk ho ht => (e _).trans (h.2.1 k hk ho ht),
    fun b hb => (e b).trans (h.2.2 b hb)⟩

/-- Bytes that take no store: nothing changes. -/
theorem State.storesBytes_none {s t : State} {a : Word} {n : Nat} {on : Nat → Bool} {byte : Nat → Byte}
    (hm : t.mem = s.mem) (hp : t.params = s.params)
    (h : ∀ k, k < n → s.takesStores (a + BitVec.ofNat 32 k) = false) : StoresBytes s t a n on byte := by
  have e := State.byteAt_congr hm hp
  exact ⟨fun k hk _ ht => (by rw [h k hk] at ht; cases ht), fun k _ _ _ => e _, fun b _ => e b⟩

theorem isAligned_mod {w : Width} {a : Word} (h : isAligned w a = true) : a.toNat % w.bytes = 0 := by
  cases w
  · exact Nat.mod_one _
  · exact isAligned_half h
  · exact isAligned_word h

theorem width_bytes_cases (w : Width) : w.bytes = 1 ∨ w.bytes = 2 ∨ w.bytes = 4 := by cases w <;> decide

theorem mem_widthBytes (w : Width) (v : Word) (kb : Nat × Byte) :
    kb ∈ widthBytes w v ↔ kb.1 < w.bytes ∧ true = true ∧ kb.2 = byteOf v kb.1 := by
  obtain ⟨k, b⟩ := kb
  cases w <;> simp only [widthBytes, List.mem_cons, Prod.mk.injEq, List.not_mem_nil, or_false, Width.bytes, true_and]
  · constructor
    · rintro ⟨rfl, rfl⟩; simp
    · rintro ⟨h, rfl⟩; interval_cases k; simp
  · constructor
    · rintro (⟨rfl, rfl⟩ | ⟨rfl, rfl⟩) <;> simp
    · rintro ⟨h, rfl⟩; interval_cases k <;> simp
  · constructor
    · rintro (⟨rfl, rfl⟩ | ⟨rfl, rfl⟩ | ⟨rfl, rfl⟩ | ⟨rfl, rfl⟩) <;> simp
    · rintro ⟨h, rfl⟩; interval_cases k <;> simp

theorem pairwise_widthBytes (w : Width) (v : Word) : (widthBytes w v).Pairwise (fun x y => x.1 ≠ y.1) := by
  cases w <;> simp [widthBytes]

/-- Inside an aligned unit no byte of a device access takes a store. -/
theorem State.takesStores_device {s : State} (hp : s.params.wf) {a : Word} {n k : Nat} (hn : n = 1 ∨ n = 2 ∨ n = 4)
    (ha : a.toNat % n = 0) (hk : k < n) (h : s.regionOf a = .device) : s.takesStores (a + BitVec.ofNat 32 k) = false := by
  have hq : route s.params (phys a + k) = route s.params (phys a) := by
    have e1 : phys a / 4 * 4 + phys a % 4 = phys a := by omega
    have hm : phys a % 4 + k < 4 := by
      have : phys a % n = 0 := by rw [phys_eq]; rcases hn with rfl | rfl | rfl <;> omega
      rcases hn with rfl | rfl | rfl <;> omega
    have r1 := route_aligned hp (p := phys a / 4 * 4) (k := phys a % 4 + k) (by omega) hm
    have r2 := route_aligned hp (p := phys a / 4 * 4) (k := phys a % 4) (by omega) (by omega)
    rw [e1] at r2
    rw [show phys a / 4 * 4 + (phys a % 4 + k) = phys a + k by omega] at r1
    rw [r1, r2]
  unfold State.takesStores State.regionOf
  unfold State.regionOf at h
  rw [phys_add hn ha hk, hq, h]

/-- What a write of a width stores. -/
theorem State.memWrite_bytes {s : State} (hp : s.params.wf) (hm : s.mem.wf) {a : Word} {w : Width}
    (ha : isAligned w a = true) (v : Word) : StoresBytes s (s.memWrite a w v) a w.bytes (fun _ => true) (byteOf v) := by
  by_cases hd : s.regionOf a = .device
  · refine State.storesBytes_none ?_ (by simp) fun k hk =>
      State.takesStores_device hp (width_bytes_cases w) (isAligned_mod ha) hk hd
    unfold State.memWrite; unfold State.regionOf at hd; rw [hd]
  · refine State.storesBytes_of (width_bytes_cases w) (isAligned_mod ha) hm (by simp) ?_ (pairwise_widthBytes w v)
      (mem_widthBytes w v)
    unfold State.memWrite; unfold State.regionOf at hd
    cases hr : route s.params (phys a) <;> simp_all

theorem State.memWrite_events (s : State) (a : Word) (w : Width) (v : Word) :
    (s.memWrite a w v).events =
      if s.regionOf a = .device then .write (phys a) w (lowBytes w v) :: s.events else s.events := by
  unfold State.memWrite State.regionOf
  cases hr : route s.params (phys a) <;> simp

theorem mem_maskedBytes (v : Word) (mask : BitVec 4) (kb : Nat × Byte) :
    kb ∈ maskedBytes v mask ↔ kb.1 < 4 ∧ mask.getLsbD kb.1 = true ∧ kb.2 = byteOf v kb.1 := by
  unfold maskedBytes
  rw [List.mem_filter, mem_widthBytes]
  simp only [Width.bytes]
  tauto

/-- What a masked write of an aligned word stores. -/
theorem State.memWriteMasked_bytes {s : State} (hp : s.params.wf) (hm : s.mem.wf) {a : Word} (ha : a.toNat % 4 = 0)
    (v : Word) (mask : BitVec 4) :
    StoresBytes s (s.memWriteMasked a v mask) a 4 (fun k => mask.getLsbD k) (byteOf v) := by
  by_cases hd : s.regionOf a = .device
  · refine State.storesBytes_none ?_ (by simp) fun k hk => State.takesStores_device hp (by simp) ha hk hd
    unfold State.memWriteMasked; unfold State.regionOf at hd; rw [hd]
  · refine State.storesBytes_of (bytes := maskedBytes v mask) (by simp) ha hm (by simp) ?_
      ((pairwise_widthBytes .word v).filter _)
      (mem_maskedBytes v mask)
    unfold State.memWriteMasked; unfold State.regionOf at hd
    cases hr : route s.params (phys a) <;> simp_all

theorem State.memWriteMasked_events (s : State) (a v : Word) (mask : BitVec 4) :
    (s.memWriteMasked a v mask).events =
      if s.regionOf a = .device then .writeMasked (phys a) v mask :: s.events else s.events := by
  unfold State.memWriteMasked State.regionOf
  cases hr : route s.params (phys a) <;> simp

theorem alignedWord_mod (a : Word) : (alignedWord a).toNat % 4 = 0 := by
  have h : (alignedWord a).extractLsb' 0 2 = 0#2 := by
    apply BitVec.eq_of_getLsbD_eq
    intro i hi
    simp only [alignedWord, BitVec.getLsbD_extractLsb']
    interval_cases i <;> simp
  have := congrArg BitVec.toNat h
  simpa using this

/-! ### Loads and stores -/

/-- `completeLoad` ends in a step that made a load pending and did nothing else. -/
theorem State.completeLoad_spec (s : State) (d : Reg) (v : Word) :
    ∃ t, s.completeLoad d v = .next t ∧ LoadStep s t d v 0 :=
  ⟨_, rfl, {
    regs := s.loadsReg_retire rfl rfl
    control := s.falls_retire rfl rfl
    age := s.ages_retire rfl
    hilo := ⟨by simp, by simp⟩
    cop0 := by simp [KeepsCop0]
    memory := s.keepsMemory_retire _
    book := s.keepsBook_retire _
    draws := by simp }⟩

/-- A load that reads device space. -/
theorem State.completeLoad_device {s : State} {a : Word} {w : Width} (h : s.regionOf a = .device) (d : Reg) (v : Word) :
    ∃ t, (s.memRead a w).2.completeLoad d v = .next t ∧ DeviceLoadStep s t d v a w := by
  refine ⟨_, rfl, ?_⟩
  have hu := congrArg Prod.snd (State.memRead_device h w)
  have hl := (s.memRead a w).2.loadsReg_retire (e := { load := some (d, v) }) rfl rfl
  have hf := (s.memRead a w).2.falls_retire (e := { load := some (d, v) }) rfl rfl
  have hg : (s.memRead a w).2.gpr = s.gpr := by simp
  exact {
    regs := ⟨hl.1, hl.2.1.trans (State.x_congr hg d),
      fun r hr => (hl.2.2 r hr).trans (State.arrived_congr hg (by simp) r)⟩
    control := ⟨hf.1.trans (by simp), hf.2.1, hf.2.2⟩
    age := by unfold Ages; rw [State.ages_retire _ rfl]; simp
    hilo := ⟨by simp, by simp⟩
    cop0 := by simp [KeepsCop0]
    bytes := State.byteAt_congr (by simp) (by simp)
    events := by rw [State.retire_events, hu]; rfl
    book := ⟨by simp, by simp, by simp⟩
    draws := by rw [State.retire_draws, hu]; simp }

theorem State.loading_next {s : State} {w : Width} {ea : Word} (ha : isAligned w ea = true)
    (hu : s.userBlocked ea = false) (k : Word → State → Host.Outcome State Fault Refusal) :
    s.loading w ea k = k (s.memRead ea w).1 (s.memRead ea w).2 := by
  simp [State.loading, ha, hu]

theorem State.loading_raise {s : State} {w : Width} {ea : Word} (h : isAligned w ea = false ∨ s.userBlocked ea = true)
    (k : Word → State → Host.Outcome State Fault Refusal) : s.loading w ea k = s.raise (.adEL ea) := by
  rcases h with h | h <;> simp [State.loading, h]

/-- What a store leaves but memory and the device history. -/
theorem State.storeStep_of {s u : State} (hg : u.gpr = s.gpr) (hld : u.ld = s.ld) (hbd : u.bd = s.bd) (hpc : u.pc = s.pc)
    (ha : u.hiloAge = s.hiloAge) (hh : KeepsHiLo s u) (hc : u.cop0 = s.cop0) (hb : KeepsBook s u) :
    StoreStep s (u.retire { }) := by
  have hx := u.writesNoReg_retire (e := { }) rfl rfl
  have hf := u.falls_retire (e := { }) rfl rfl
  exact {
    regs := ⟨fun r => (hx.1 r).trans (State.arrived_congr hg hld r), hx.2⟩
    control := ⟨by rw [hf.1, hbd, hpc], hf.2.1, hf.2.2⟩
    age := by unfold Ages; rw [u.ages_retire (e := { }) rfl, ha]
    hilo := ⟨by simp [hh.1], by simp [hh.2]⟩
    cop0 := by simp [KeepsCop0, hc]
    book := ⟨by simp [hb.1], by simp [hb.2.1], by simp [hb.2.2]⟩ }

/-- `storing`, where its checks pass. -/
theorem State.storing_spec {s : State} (hp : s.params.wf) (hm : s.mem.wf) {w : Width} {ea : Word}
    (ha : isAligned w ea = true) (hu : s.userBlocked ea = false) (v : Word) :
    ∃ t, s.storing w ea v = .next t ∧
      Stores s t ea w.bytes (fun _ => true) (byteOf v) (.write (phys ea) w (lowBytes w v)) ∧ t.draws = s.draws := by
  refine ⟨(s.memWrite ea w v).retire { }, by simp [State.storing, ha, hu, State.complete], ⟨?_, ?_, ?_⟩, by simp⟩
  · exact State.storeStep_of (by simp) (by simp) (by simp) (by simp) (by simp) ⟨by simp, by simp⟩ (by simp)
      ⟨by simp, by simp, by simp⟩
  · exact (State.memWrite_bytes hp hm ha v).congr (by simp) (by simp)
  · rw [State.retire_events, State.memWrite_events]

theorem State.storing_raise {s : State} {w : Width} {ea : Word} (h : isAligned w ea = false ∨ s.userBlocked ea = true)
    (v : Word) : s.storing w ea v = s.raise (.adES ea) := by
  rcases h with h | h <;> simp [State.storing, h]

/-- `storingMasked`, where its check passes. -/
theorem State.storingMasked_spec {s : State} (hp : s.params.wf) (hm : s.mem.wf) {ea : Word}
    (hu : s.userBlocked ea = false) (v : Word) (mask : BitVec 4) :
    ∃ t, s.storingMasked ea v mask = .next t ∧
      Stores s t (alignedWord ea) 4 (fun k => mask.getLsbD k) (byteOf v) (.writeMasked (phys (alignedWord ea)) v mask) ∧
      t.draws = s.draws := by
  refine ⟨(s.memWriteMasked (alignedWord ea) v mask).retire { }, by simp [State.storingMasked, hu, State.complete],
    ⟨?_, ?_, ?_⟩, by simp⟩
  · exact State.storeStep_of (by simp) (by simp) (by simp) (by simp) (by simp) ⟨by simp, by simp⟩ (by simp)
      ⟨by simp, by simp, by simp⟩
  · exact (State.memWriteMasked_bytes hp hm (alignedWord_mod ea) v mask).congr (by simp) (by simp)
  · rw [State.retire_events, State.memWriteMasked_events]

/-! ### The COP0 accessors -/

theorem State.cop0Write_cop0 (s : State) (i : CopReg) (v : Word) : (s.cop0Write i v).cop0 = s.cop0.written i v := by
  obtain ⟨i, hi⟩ := i
  interval_cases i <;> rfl

theorem State.cop0Read_fst (s : State) (i : CopReg) : (s.cop0Read i).1 = s.cop0.shown (Config.drawTar s.draws) i := by
  obtain ⟨i, hi⟩ := i
  interval_cases i <;> rfl

theorem State.cop0Read_snd_draws (s : State) (i : CopReg) :
    (s.cop0Read i).2.draws = if i = 6 then s.draws + 1 else s.draws := by
  obtain ⟨i, hi⟩ := i
  interval_cases i <;> rfl

theorem State.withCop0_usable {s : State} (h : s.cop0Blocked = false) (k : Host.Outcome State Fault Refusal) :
    s.withCop0 k = k := by simp [State.withCop0, h]

theorem State.withCop0_blocked {s : State} (h : s.cop0Blocked = true) (k : Host.Outcome State Fault Refusal) :
    s.withCop0 k = s.raise (.cpU 0#2) := by simp [State.withCop0, h]

/-! ### The checks in the spec's terms -/

theorem State.cop0Blocked_false {s : State} (h : s.cop0Usable) : s.cop0Blocked = false := by
  unfold State.cop0Usable at h
  unfold State.cop0Blocked Sr.kuc Sr.cu0
  rcases h with h | h <;> rw [h] <;> simp

theorem State.cop0Blocked_true {s : State} (h : ¬ s.cop0Usable) : s.cop0Blocked = true := by
  unfold State.cop0Usable at h
  unfold State.cop0Blocked Sr.kuc Sr.cu0
  simpa using h

theorem State.userBlocked_iff {s : State} {a : Word} : s.userBlocked a = true ↔ s.userForbidden a := by
  simp [State.userBlocked, State.userForbidden, Sr.kuc, BitVec.msb_eq_getLsbD_last]

theorem State.userBlocked_false {s : State} {a : Word} (h : ¬ s.userForbidden a) : s.userBlocked a = false := by
  rw [← Bool.not_eq_true, State.userBlocked_iff]; exact h

theorem State.hiloBlocked_iff {s : State} : s.hiloBlocked = true ↔ s.hazard := by
  have h : ∀ a : Fin 3, a ≠ 2 ↔ a.val < 2 := by decide
  simp [State.hiloBlocked, State.hazard, h]

theorem isAligned_half_of {a : Word} (h : a.toNat % 2 = 0) : isAligned .half a = true := by
  refine beq_iff_eq.mpr (BitVec.eq_of_toNat_eq ?_)
  simpa using h

theorem isAligned_word_of {a : Word} (h : a.toNat % 4 = 0) : isAligned .word a = true := by
  refine beq_iff_eq.mpr (BitVec.eq_of_toNat_eq ?_)
  simpa using h

theorem isAligned_half_false {a : Word} (h : a.toNat % 2 ≠ 0) : isAligned .half a = false := by
  rw [← Bool.not_eq_true]; exact fun e => h (isAligned_half e)

theorem isAligned_word_false {a : Word} (h : a.toNat % 4 ≠ 0) : isAligned .word a = false := by
  rw [← Bool.not_eq_true]; exact fun e => h (isAligned_word e)

end Sys2Proof.Machine
end

