-- ==== Sys2Proof/Laws/PerInstr.lean ====
section
/-! SUPPORT. For every instruction: the word it encodes to is a word of its own row of the opcode table. -/

namespace Sys2Proof.Laws.TableRow

/-- A well-formed instruction's word is covered by its row of spec/opcode_table.json. -/
def Statement (i : Instr) : Prop := i.wf = true → i.row.covers (encode i) = true

theorem covers_of {r : OpcodeRow} {w : Word} (h : w &&& r.mask = r.value) (hb : r.butNot = []) : r.covers w = true := by
  simp [OpcodeRow.covers, h, hb]

theorem sll (rd rt : Reg) (sa : BitVec 5) : Statement (.sll rd rt sa) := fun _ =>
  covers_of (w := encR 0 rt rd sa 0x00#6) ((and_functMask _).trans (by rw [opField_encR, functField_encR]; rfl)) rfl

theorem srl (rd rt : Reg) (sa : BitVec 5) : Statement (.srl rd rt sa) := fun _ =>
  covers_of (w := encR 0 rt rd sa 0x02#6) ((and_functMask _).trans (by rw [opField_encR, functField_encR]; rfl)) rfl

theorem sra (rd rt : Reg) (sa : BitVec 5) : Statement (.sra rd rt sa) := fun _ =>
  covers_of (w := encR 0 rt rd sa 0x03#6) ((and_functMask _).trans (by rw [opField_encR, functField_encR]; rfl)) rfl

theorem sllv (rd rt rs : Reg) : Statement (.sllv rd rt rs) := fun _ =>
  covers_of (w := encR rs rt rd 0#5 0x04#6) ((and_functMask _).trans (by rw [opField_encR, functField_encR]; rfl)) rfl

theorem srlv (rd rt rs : Reg) : Statement (.srlv rd rt rs) := fun _ =>
  covers_of (w := encR rs rt rd 0#5 0x06#6) ((and_functMask _).trans (by rw [opField_encR, functField_encR]; rfl)) rfl

theorem srav (rd rt rs : Reg) : Statement (.srav rd rt rs) := fun _ =>
  covers_of (w := encR rs rt rd 0#5 0x07#6) ((and_functMask _).trans (by rw [opField_encR, functField_encR]; rfl)) rfl

theorem add (rd rs rt : Reg) : Statement (.add rd rs rt) := fun _ =>
  covers_of (w := encR rs rt rd 0#5 0x20#6) ((and_functMask _).trans (by rw [opField_encR, functField_encR]; rfl)) rfl

theorem addu (rd rs rt : Reg) : Statement (.addu rd rs rt) := fun _ =>
  covers_of (w := encR rs rt rd 0#5 0x21#6) ((and_functMask _).trans (by rw [opField_encR, functField_encR]; rfl)) rfl

theorem sub (rd rs rt : Reg) : Statement (.sub rd rs rt) := fun _ =>
  covers_of (w := encR rs rt rd 0#5 0x22#6) ((and_functMask _).trans (by rw [opField_encR, functField_encR]; rfl)) rfl

theorem subu (rd rs rt : Reg) : Statement (.subu rd rs rt) := fun _ =>
  covers_of (w := encR rs rt rd 0#5 0x23#6) ((and_functMask _).trans (by rw [opField_encR, functField_encR]; rfl)) rfl

theorem and (rd rs rt : Reg) : Statement (.and rd rs rt) := fun _ =>
  covers_of (w := encR rs rt rd 0#5 0x24#6) ((and_functMask _).trans (by rw [opField_encR, functField_encR]; rfl)) rfl

theorem or (rd rs rt : Reg) : Statement (.or rd rs rt) := fun _ =>
  covers_of (w := encR rs rt rd 0#5 0x25#6) ((and_functMask _).trans (by rw [opField_encR, functField_encR]; rfl)) rfl

theorem xor (rd rs rt : Reg) : Statement (.xor rd rs rt) := fun _ =>
  covers_of (w := encR rs rt rd 0#5 0x26#6) ((and_functMask _).trans (by rw [opField_encR, functField_encR]; rfl)) rfl

theorem nor (rd rs rt : Reg) : Statement (.nor rd rs rt) := fun _ =>
  covers_of (w := encR rs rt rd 0#5 0x27#6) ((and_functMask _).trans (by rw [opField_encR, functField_encR]; rfl)) rfl

theorem slt (rd rs rt : Reg) : Statement (.slt rd rs rt) := fun _ =>
  covers_of (w := encR rs rt rd 0#5 0x2A#6) ((and_functMask _).trans (by rw [opField_encR, functField_encR]; rfl)) rfl

theorem sltu (rd rs rt : Reg) : Statement (.sltu rd rs rt) := fun _ =>
  covers_of (w := encR rs rt rd 0#5 0x2B#6) ((and_functMask _).trans (by rw [opField_encR, functField_encR]; rfl)) rfl

theorem addi (rt rs : Reg) (imm : BitVec 16) : Statement (.addi rt rs imm) := fun _ =>
  covers_of (w := encI 0x08#6 rs rt imm) ((and_opMask _).trans (by rw [opField_encI]; rfl)) rfl

theorem addiu (rt rs : Reg) (imm : BitVec 16) : Statement (.addiu rt rs imm) := fun _ =>
  covers_of (w := encI 0x09#6 rs rt imm) ((and_opMask _).trans (by rw [opField_encI]; rfl)) rfl

theorem slti (rt rs : Reg) (imm : BitVec 16) : Statement (.slti rt rs imm) := fun _ =>
  covers_of (w := encI 0x0A#6 rs rt imm) ((and_opMask _).trans (by rw [opField_encI]; rfl)) rfl

theorem sltiu (rt rs : Reg) (imm : BitVec 16) : Statement (.sltiu rt rs imm) := fun _ =>
  covers_of (w := encI 0x0B#6 rs rt imm) ((and_opMask _).trans (by rw [opField_encI]; rfl)) rfl

theorem andi (rt rs : Reg) (imm : BitVec 16) : Statement (.andi rt rs imm) := fun _ =>
  covers_of (w := encI 0x0C#6 rs rt imm) ((and_opMask _).trans (by rw [opField_encI]; rfl)) rfl

theorem ori (rt rs : Reg) (imm : BitVec 16) : Statement (.ori rt rs imm) := fun _ =>
  covers_of (w := encI 0x0D#6 rs rt imm) ((and_opMask _).trans (by rw [opField_encI]; rfl)) rfl

theorem xori (rt rs : Reg) (imm : BitVec 16) : Statement (.xori rt rs imm) := fun _ =>
  covers_of (w := encI 0x0E#6 rs rt imm) ((and_opMask _).trans (by rw [opField_encI]; rfl)) rfl

theorem lui (rt : Reg) (imm : BitVec 16) : Statement (.lui rt imm) := fun _ =>
  covers_of (w := encI 0x0F#6 0 rt imm) ((and_opMask _).trans (by rw [opField_encI]; rfl)) rfl

theorem mult (rs rt : Reg) : Statement (.mult rs rt) := fun _ =>
  covers_of (w := encR rs rt 0 0#5 0x18#6) ((and_functMask _).trans (by rw [opField_encR, functField_encR]; rfl)) rfl

theorem multu (rs rt : Reg) : Statement (.multu rs rt) := fun _ =>
  covers_of (w := encR rs rt 0 0#5 0x19#6) ((and_functMask _).trans (by rw [opField_encR, functField_encR]; rfl)) rfl

theorem div (rs rt : Reg) : Statement (.div rs rt) := fun _ =>
  covers_of (w := encR rs rt 0 0#5 0x1A#6) ((and_functMask _).trans (by rw [opField_encR, functField_encR]; rfl)) rfl

theorem divu (rs rt : Reg) : Statement (.divu rs rt) := fun _ =>
  covers_of (w := encR rs rt 0 0#5 0x1B#6) ((and_functMask _).trans (by rw [opField_encR, functField_encR]; rfl)) rfl

theorem mfhi (rd : Reg) : Statement (.mfhi rd) := fun _ =>
  covers_of (w := encR 0 0 rd 0#5 0x10#6) ((and_functMask _).trans (by rw [opField_encR, functField_encR]; rfl)) rfl

theorem mflo (rd : Reg) : Statement (.mflo rd) := fun _ =>
  covers_of (w := encR 0 0 rd 0#5 0x12#6) ((and_functMask _).trans (by rw [opField_encR, functField_encR]; rfl)) rfl

theorem mthi (rs : Reg) : Statement (.mthi rs) := fun _ =>
  covers_of (w := encR rs 0 0 0#5 0x11#6) ((and_functMask _).trans (by rw [opField_encR, functField_encR]; rfl)) rfl

theorem mtlo (rs : Reg) : Statement (.mtlo rs) := fun _ =>
  covers_of (w := encR rs 0 0 0#5 0x13#6) ((and_functMask _).trans (by rw [opField_encR, functField_encR]; rfl)) rfl

theorem beq (rs rt : Reg) (imm : BitVec 16) : Statement (.beq rs rt imm) := fun _ =>
  covers_of (w := encI 0x04#6 rs rt imm) ((and_opMask _).trans (by rw [opField_encI]; rfl)) rfl

theorem bne (rs rt : Reg) (imm : BitVec 16) : Statement (.bne rs rt imm) := fun _ =>
  covers_of (w := encI 0x05#6 rs rt imm) ((and_opMask _).trans (by rw [opField_encI]; rfl)) rfl

theorem blez (rs : Reg) (imm : BitVec 16) : Statement (.blez rs imm) := fun _ =>
  covers_of (w := encI 0x06#6 rs 0 imm) ((and_opMask _).trans (by rw [opField_encI]; rfl)) rfl

theorem bgtz (rs : Reg) (imm : BitVec 16) : Statement (.bgtz rs imm) := fun _ =>
  covers_of (w := encI 0x07#6 rs 0 imm) ((and_opMask _).trans (by rw [opField_encI]; rfl)) rfl

theorem bltz (rs : Reg) (imm : BitVec 16) : Statement (.bltz rs imm) := fun _ =>
  covers_of (w := encI 0x01#6 rs 0 imm) ((and_rtMask _).trans (by rw [opField_encI, rtBits_encI]; rfl)) rfl

theorem bgez (rs : Reg) (imm : BitVec 16) : Statement (.bgez rs imm) := fun _ =>
  covers_of (w := encI 0x01#6 rs 1 imm) ((and_rtMask _).trans (by rw [opField_encI, rtBits_encI]; rfl)) rfl

theorem bltzal (rs : Reg) (imm : BitVec 16) : Statement (.bltzal rs imm) := fun _ =>
  covers_of (w := encI 0x01#6 rs 16 imm) ((and_rtMask _).trans (by rw [opField_encI, rtBits_encI]; rfl)) rfl

theorem bgezal (rs : Reg) (imm : BitVec 16) : Statement (.bgezal rs imm) := fun _ =>
  covers_of (w := encI 0x01#6 rs 17 imm) ((and_rtMask _).trans (by rw [opField_encI, rtBits_encI]; rfl)) rfl

theorem j (target : BitVec 26) : Statement (.j target) := fun _ =>
  covers_of (w := encJ 0x02#6 target) ((and_opMask _).trans (by rw [opField_encJ]; rfl)) rfl

theorem jal (target : BitVec 26) : Statement (.jal target) := fun _ =>
  covers_of (w := encJ 0x03#6 target) ((and_opMask _).trans (by rw [opField_encJ]; rfl)) rfl

theorem jr (rs : Reg) : Statement (.jr rs) := fun _ =>
  covers_of (w := encR rs 0 0 0#5 0x08#6) ((and_functMask _).trans (by rw [opField_encR, functField_encR]; rfl)) rfl

theorem jalr (rd rs : Reg) : Statement (.jalr rd rs) := fun _ =>
  covers_of (w := encR rs 0 rd 0#5 0x09#6) ((and_functMask _).trans (by rw [opField_encR, functField_encR]; rfl)) rfl

theorem lb (rt rs : Reg) (imm : BitVec 16) : Statement (.lb rt rs imm) := fun _ =>
  covers_of (w := encI 0x20#6 rs rt imm) ((and_opMask _).trans (by rw [opField_encI]; rfl)) rfl

theorem lbu (rt rs : Reg) (imm : BitVec 16) : Statement (.lbu rt rs imm) := fun _ =>
  covers_of (w := encI 0x24#6 rs rt imm) ((and_opMask _).trans (by rw [opField_encI]; rfl)) rfl

theorem lh (rt rs : Reg) (imm : BitVec 16) : Statement (.lh rt rs imm) := fun _ =>
  covers_of (w := encI 0x21#6 rs rt imm) ((and_opMask _).trans (by rw [opField_encI]; rfl)) rfl

theorem lhu (rt rs : Reg) (imm : BitVec 16) : Statement (.lhu rt rs imm) := fun _ =>
  covers_of (w := encI 0x25#6 rs rt imm) ((and_opMask _).trans (by rw [opField_encI]; rfl)) rfl

theorem lw (rt rs : Reg) (imm : BitVec 16) : Statement (.lw rt rs imm) := fun _ =>
  covers_of (w := encI 0x23#6 rs rt imm) ((and_opMask _).trans (by rw [opField_encI]; rfl)) rfl

theorem lwl (rt rs : Reg) (imm : BitVec 16) : Statement (.lwl rt rs imm) := fun _ =>
  covers_of (w := encI 0x22#6 rs rt imm) ((and_opMask _).trans (by rw [opField_encI]; rfl)) rfl

theorem lwr (rt rs : Reg) (imm : BitVec 16) : Statement (.lwr rt rs imm) := fun _ =>
  covers_of (w := encI 0x26#6 rs rt imm) ((and_opMask _).trans (by rw [opField_encI]; rfl)) rfl

theorem sb (rt rs : Reg) (imm : BitVec 16) : Statement (.sb rt rs imm) := fun _ =>
  covers_of (w := encI 0x28#6 rs rt imm) ((and_opMask _).trans (by rw [opField_encI]; rfl)) rfl

theorem sh (rt rs : Reg) (imm : BitVec 16) : Statement (.sh rt rs imm) := fun _ =>
  covers_of (w := encI 0x29#6 rs rt imm) ((and_opMask _).trans (by rw [opField_encI]; rfl)) rfl

theorem sw (rt rs : Reg) (imm : BitVec 16) : Statement (.sw rt rs imm) := fun _ =>
  covers_of (w := encI 0x2B#6 rs rt imm) ((and_opMask _).trans (by rw [opField_encI]; rfl)) rfl

theorem swl (rt rs : Reg) (imm : BitVec 16) : Statement (.swl rt rs imm) := fun _ =>
  covers_of (w := encI 0x2A#6 rs rt imm) ((and_opMask _).trans (by rw [opField_encI]; rfl)) rfl

theorem swr (rt rs : Reg) (imm : BitVec 16) : Statement (.swr rt rs imm) := fun _ =>
  covers_of (w := encI 0x2E#6 rs rt imm) ((and_opMask _).trans (by rw [opField_encI]; rfl)) rfl

theorem lwc0 (cr : CopReg) (rs : Reg) (imm : BitVec 16) : Statement (.lwc0 cr rs imm) := fun _ =>
  covers_of (w := encI 0x30#6 rs cr imm) ((and_opMask _).trans (by rw [opField_encI]; rfl)) rfl

theorem swc0 (cr : CopReg) (rs : Reg) (imm : BitVec 16) : Statement (.swc0 cr rs imm) := fun _ =>
  covers_of (w := encI 0x38#6 rs cr imm) ((and_opMask _).trans (by rw [opField_encI]; rfl)) rfl

theorem syscall (code : BitVec 20) : Statement (.syscall code) := fun _ =>
  covers_of (w := encCode code 0x0C#6) ((and_functMask _).trans (by rw [opField_encCode, functField_encCode]; rfl)) rfl

theorem brk (code : BitVec 20) : Statement (.brk code) := fun _ =>
  covers_of (w := encCode code 0x0D#6) ((and_functMask _).trans (by rw [opField_encCode, functField_encCode]; rfl)) rfl

theorem mfc0 (rt : Reg) (cr : CopReg) : Statement (.mfc0 rt cr) := fun _ =>
  covers_of (w := encCop 0 rt cr) ((and_rsMask _).trans (by rw [opField_encCop, rsBits_encCop]; rfl)) rfl

theorem mtc0 (rt : Reg) (cr : CopReg) : Statement (.mtc0 rt cr) := fun _ =>
  covers_of (w := encCop 4 rt cr) ((and_rsMask _).trans (by rw [opField_encCop, rsBits_encCop]; rfl)) rfl

theorem bc0f (imm : BitVec 16) : Statement (.bc0f imm) := fun _ =>
  covers_of (w := encI 0x10#6 8 0 imm) ((and_rsRtMask _).trans (by rw [opField_encI, rsBits_encI, rtBits_encI]; rfl)) rfl

theorem bc0t (imm : BitVec 16) : Statement (.bc0t imm) := fun _ =>
  covers_of (w := encI 0x10#6 8 1 imm) ((and_rsRtMask _).trans (by rw [opField_encI, rsBits_encI, rtBits_encI]; rfl)) rfl

theorem cfc0 (rt : Reg) (cr : CopReg) : Statement (.cfc0 rt cr) := fun _ =>
  covers_of (w := encCop 2 rt cr) ((and_rsMask _).trans (by rw [opField_encCop, rsBits_encCop]; rfl)) rfl

theorem ctc0 (rt : Reg) (cr : CopReg) : Statement (.ctc0 rt cr) := fun _ =>
  covers_of (w := encCop 6 rt cr) ((and_rsMask _).trans (by rw [opField_encCop, rsBits_encCop]; rfl)) rfl

theorem rfe : Statement .rfe := fun _ =>
  covers_of (w := encCmd 0x10#6) ((and_cmdFunctMask _).trans (by rw [opField_encCmd, rsBits_encCmd, functField_encCmd]; rfl)) rfl

theorem bcondzRt02 (rs : Reg) (imm : BitVec 16) : Statement (.bcondzRt02 rs imm) := fun _ =>
  covers_of (w := encI 0x01#6 rs 2 imm) ((and_rtMask _).trans (by rw [opField_encI, rtBits_encI]; rfl)) rfl

theorem bcondzRt03 (rs : Reg) (imm : BitVec 16) : Statement (.bcondzRt03 rs imm) := fun _ =>
  covers_of (w := encI 0x01#6 rs 3 imm) ((and_rtMask _).trans (by rw [opField_encI, rtBits_encI]; rfl)) rfl

theorem bcondzRt04 (rs : Reg) (imm : BitVec 16) : Statement (.bcondzRt04 rs imm) := fun _ =>
  covers_of (w := encI 0x01#6 rs 4 imm) ((and_rtMask _).trans (by rw [opField_encI, rtBits_encI]; rfl)) rfl

theorem bcondzRt05 (rs : Reg) (imm : BitVec 16) : Statement (.bcondzRt05 rs imm) := fun _ =>
  covers_of (w := encI 0x01#6 rs 5 imm) ((and_rtMask _).trans (by rw [opField_encI, rtBits_encI]; rfl)) rfl

theorem bcondzRt06 (rs : Reg) (imm : BitVec 16) : Statement (.bcondzRt06 rs imm) := fun _ =>
  covers_of (w := encI 0x01#6 rs 6 imm) ((and_rtMask _).trans (by rw [opField_encI, rtBits_encI]; rfl)) rfl

theorem bcondzRt07 (rs : Reg) (imm : BitVec 16) : Statement (.bcondzRt07 rs imm) := fun _ =>
  covers_of (w := encI 0x01#6 rs 7 imm) ((and_rtMask _).trans (by rw [opField_encI, rtBits_encI]; rfl)) rfl

theorem bcondzRt08 (rs : Reg) (imm : BitVec 16) : Statement (.bcondzRt08 rs imm) := fun _ =>
  covers_of (w := encI 0x01#6 rs 8 imm) ((and_rtMask _).trans (by rw [opField_encI, rtBits_encI]; rfl)) rfl

theorem bcondzRt09 (rs : Reg) (imm : BitVec 16) : Statement (.bcondzRt09 rs imm) := fun _ =>
  covers_of (w := encI 0x01#6 rs 9 imm) ((and_rtMask _).trans (by rw [opField_encI, rtBits_encI]; rfl)) rfl

theorem bcondzRt0A (rs : Reg) (imm : BitVec 16) : Statement (.bcondzRt0A rs imm) := fun _ =>
  covers_of (w := encI 0x01#6 rs 10 imm) ((and_rtMask _).trans (by rw [opField_encI, rtBits_encI]; rfl)) rfl

theorem bcondzRt0B (rs : Reg) (imm : BitVec 16) : Statement (.bcondzRt0B rs imm) := fun _ =>
  covers_of (w := encI 0x01#6 rs 11 imm) ((and_rtMask _).trans (by rw [opField_encI, rtBits_encI]; rfl)) rfl

theorem bcondzRt0C (rs : Reg) (imm : BitVec 16) : Statement (.bcondzRt0C rs imm) := fun _ =>
  covers_of (w := encI 0x01#6 rs 12 imm) ((and_rtMask _).trans (by rw [opField_encI, rtBits_encI]; rfl)) rfl

theorem bcondzRt0D (rs : Reg) (imm : BitVec 16) : Statement (.bcondzRt0D rs imm) := fun _ =>
  covers_of (w := encI 0x01#6 rs 13 imm) ((and_rtMask _).trans (by rw [opField_encI, rtBits_encI]; rfl)) rfl

theorem bcondzRt0E (rs : Reg) (imm : BitVec 16) : Statement (.bcondzRt0E rs imm) := fun _ =>
  covers_of (w := encI 0x01#6 rs 14 imm) ((and_rtMask _).trans (by rw [opField_encI, rtBits_encI]; rfl)) rfl

theorem bcondzRt0F (rs : Reg) (imm : BitVec 16) : Statement (.bcondzRt0F rs imm) := fun _ =>
  covers_of (w := encI 0x01#6 rs 15 imm) ((and_rtMask _).trans (by rw [opField_encI, rtBits_encI]; rfl)) rfl

theorem bcondzRt12 (rs : Reg) (imm : BitVec 16) : Statement (.bcondzRt12 rs imm) := fun _ =>
  covers_of (w := encI 0x01#6 rs 18 imm) ((and_rtMask _).trans (by rw [opField_encI, rtBits_encI]; rfl)) rfl

theorem bcondzRt13 (rs : Reg) (imm : BitVec 16) : Statement (.bcondzRt13 rs imm) := fun _ =>
  covers_of (w := encI 0x01#6 rs 19 imm) ((and_rtMask _).trans (by rw [opField_encI, rtBits_encI]; rfl)) rfl

theorem bcondzRt14 (rs : Reg) (imm : BitVec 16) : Statement (.bcondzRt14 rs imm) := fun _ =>
  covers_of (w := encI 0x01#6 rs 20 imm) ((and_rtMask _).trans (by rw [opField_encI, rtBits_encI]; rfl)) rfl

theorem bcondzRt15 (rs : Reg) (imm : BitVec 16) : Statement (.bcondzRt15 rs imm) := fun _ =>
  covers_of (w := encI 0x01#6 rs 21 imm) ((and_rtMask _).trans (by rw [opField_encI, rtBits_encI]; rfl)) rfl

theorem bcondzRt16 (rs : Reg) (imm : BitVec 16) : Statement (.bcondzRt16 rs imm) := fun _ =>
  covers_of (w := encI 0x01#6 rs 22 imm) ((and_rtMask _).trans (by rw [opField_encI, rtBits_encI]; rfl)) rfl

theorem bcondzRt17 (rs : Reg) (imm : BitVec 16) : Statement (.bcondzRt17 rs imm) := fun _ =>
  covers_of (w := encI 0x01#6 rs 23 imm) ((and_rtMask _).trans (by rw [opField_encI, rtBits_encI]; rfl)) rfl

theorem bcondzRt18 (rs : Reg) (imm : BitVec 16) : Statement (.bcondzRt18 rs imm) := fun _ =>
  covers_of (w := encI 0x01#6 rs 24 imm) ((and_rtMask _).trans (by rw [opField_encI, rtBits_encI]; rfl)) rfl

theorem bcondzRt19 (rs : Reg) (imm : BitVec 16) : Statement (.bcondzRt19 rs imm) := fun _ =>
  covers_of (w := encI 0x01#6 rs 25 imm) ((and_rtMask _).trans (by rw [opField_encI, rtBits_encI]; rfl)) rfl

theorem bcondzRt1A (rs : Reg) (imm : BitVec 16) : Statement (.bcondzRt1A rs imm) := fun _ =>
  covers_of (w := encI 0x01#6 rs 26 imm) ((and_rtMask _).trans (by rw [opField_encI, rtBits_encI]; rfl)) rfl

theorem bcondzRt1B (rs : Reg) (imm : BitVec 16) : Statement (.bcondzRt1B rs imm) := fun _ =>
  covers_of (w := encI 0x01#6 rs 27 imm) ((and_rtMask _).trans (by rw [opField_encI, rtBits_encI]; rfl)) rfl

theorem bcondzRt1C (rs : Reg) (imm : BitVec 16) : Statement (.bcondzRt1C rs imm) := fun _ =>
  covers_of (w := encI 0x01#6 rs 28 imm) ((and_rtMask _).trans (by rw [opField_encI, rtBits_encI]; rfl)) rfl

theorem bcondzRt1D (rs : Reg) (imm : BitVec 16) : Statement (.bcondzRt1D rs imm) := fun _ =>
  covers_of (w := encI 0x01#6 rs 29 imm) ((and_rtMask _).trans (by rw [opField_encI, rtBits_encI]; rfl)) rfl

theorem bcondzRt1E (rs : Reg) (imm : BitVec 16) : Statement (.bcondzRt1E rs imm) := fun _ =>
  covers_of (w := encI 0x01#6 rs 30 imm) ((and_rtMask _).trans (by rw [opField_encI, rtBits_encI]; rfl)) rfl

theorem bcondzRt1F (rs : Reg) (imm : BitVec 16) : Statement (.bcondzRt1F rs imm) := fun _ =>
  covers_of (w := encI 0x01#6 rs 31 imm) ((and_rtMask _).trans (by rw [opField_encI, rtBits_encI]; rfl)) rfl

theorem cop0Generic (funct : BitVec 6) : Statement (.cop0Generic funct) := by
  intro h
  have hf : funct ≠ 0x10#6 := by simpa [Instr.wf] using h
  revert hf
  clear h
  revert funct
  decide

theorem cop0Rs01 : Statement .cop0Rs01 := fun _ =>
  covers_of (w := encCop 1 0 0) ((and_rsMask _).trans (by rw [opField_encCop, rsBits_encCop]; rfl)) rfl

theorem cop0Rs03 : Statement .cop0Rs03 := fun _ =>
  covers_of (w := encCop 3 0 0) ((and_rsMask _).trans (by rw [opField_encCop, rsBits_encCop]; rfl)) rfl

theorem cop0Rs05 : Statement .cop0Rs05 := fun _ =>
  covers_of (w := encCop 5 0 0) ((and_rsMask _).trans (by rw [opField_encCop, rsBits_encCop]; rfl)) rfl

theorem cop0Rs07 : Statement .cop0Rs07 := fun _ =>
  covers_of (w := encCop 7 0 0) ((and_rsMask _).trans (by rw [opField_encCop, rsBits_encCop]; rfl)) rfl

theorem cop0Rs09 : Statement .cop0Rs09 := fun _ =>
  covers_of (w := encCop 9 0 0) ((and_rsMask _).trans (by rw [opField_encCop, rsBits_encCop]; rfl)) rfl

theorem cop0Rs0A : Statement .cop0Rs0A := fun _ =>
  covers_of (w := encCop 10 0 0) ((and_rsMask _).trans (by rw [opField_encCop, rsBits_encCop]; rfl)) rfl

theorem cop0Rs0B : Statement .cop0Rs0B := fun _ =>
  covers_of (w := encCop 11 0 0) ((and_rsMask _).trans (by rw [opField_encCop, rsBits_encCop]; rfl)) rfl

theorem cop0Rs0C : Statement .cop0Rs0C := fun _ =>
  covers_of (w := encCop 12 0 0) ((and_rsMask _).trans (by rw [opField_encCop, rsBits_encCop]; rfl)) rfl

theorem cop0Rs0D : Statement .cop0Rs0D := fun _ =>
  covers_of (w := encCop 13 0 0) ((and_rsMask _).trans (by rw [opField_encCop, rsBits_encCop]; rfl)) rfl

theorem cop0Rs0E : Statement .cop0Rs0E := fun _ =>
  covers_of (w := encCop 14 0 0) ((and_rsMask _).trans (by rw [opField_encCop, rsBits_encCop]; rfl)) rfl

theorem cop0Rs0F : Statement .cop0Rs0F := fun _ =>
  covers_of (w := encCop 15 0 0) ((and_rsMask _).trans (by rw [opField_encCop, rsBits_encCop]; rfl)) rfl

theorem cop0Rs08Other (cond : BitVec 5) : Statement (.cop0Rs08Other cond) := by
  intro h
  have hc : cond ≠ 0#5 ∧ cond ≠ 1#5 := by simpa [Instr.wf] using h
  revert hc
  clear h
  revert cond
  decide

theorem cop1 : Statement .cop1 := fun _ =>
  covers_of (w := encI 0x11#6 0 0 0#16) ((and_opMask _).trans (by rw [opField_encI]; rfl)) rfl

theorem cop3 : Statement .cop3 := fun _ =>
  covers_of (w := encI 0x13#6 0 0 0#16) ((and_opMask _).trans (by rw [opField_encI]; rfl)) rfl

theorem lwc1 : Statement .lwc1 := fun _ =>
  covers_of (w := encI 0x31#6 0 0 0#16) ((and_opMask _).trans (by rw [opField_encI]; rfl)) rfl

theorem lwc3 : Statement .lwc3 := fun _ =>
  covers_of (w := encI 0x33#6 0 0 0#16) ((and_opMask _).trans (by rw [opField_encI]; rfl)) rfl

theorem swc1 : Statement .swc1 := fun _ =>
  covers_of (w := encI 0x39#6 0 0 0#16) ((and_opMask _).trans (by rw [opField_encI]; rfl)) rfl

theorem swc3 : Statement .swc3 := fun _ =>
  covers_of (w := encI 0x3B#6 0 0 0#16) ((and_opMask _).trans (by rw [opField_encI]; rfl)) rfl

theorem cop2 : Statement .cop2 := fun _ =>
  covers_of (w := encI 0x12#6 0 0 0#16) ((and_opMask _).trans (by rw [opField_encI]; rfl)) rfl

theorem lwc2 : Statement .lwc2 := fun _ =>
  covers_of (w := encI 0x32#6 0 0 0#16) ((and_opMask _).trans (by rw [opField_encI]; rfl)) rfl

theorem swc2 : Statement .swc2 := fun _ =>
  covers_of (w := encI 0x3A#6 0 0 0#16) ((and_opMask _).trans (by rw [opField_encI]; rfl)) rfl

theorem reservedOp14 : Statement .reservedOp14 := fun _ =>
  covers_of (w := encI 0x14#6 0 0 0#16) ((and_opMask _).trans (by rw [opField_encI]; rfl)) rfl

theorem reservedOp15 : Statement .reservedOp15 := fun _ =>
  covers_of (w := encI 0x15#6 0 0 0#16) ((and_opMask _).trans (by rw [opField_encI]; rfl)) rfl

theorem reservedOp16 : Statement .reservedOp16 := fun _ =>
  covers_of (w := encI 0x16#6 0 0 0#16) ((and_opMask _).trans (by rw [opField_encI]; rfl)) rfl

theorem reservedOp17 : Statement .reservedOp17 := fun _ =>
  covers_of (w := encI 0x17#6 0 0 0#16) ((and_opMask _).trans (by rw [opField_encI]; rfl)) rfl

theorem reservedOp18 : Statement .reservedOp18 := fun _ =>
  covers_of (w := encI 0x18#6 0 0 0#16) ((and_opMask _).trans (by rw [opField_encI]; rfl)) rfl

theorem reservedOp19 : Statement .reservedOp19 := fun _ =>
  covers_of (w := encI 0x19#6 0 0 0#16) ((and_opMask _).trans (by rw [opField_encI]; rfl)) rfl

theorem reservedOp1A : Statement .reservedOp1A := fun _ =>
  covers_of (w := encI 0x1A#6 0 0 0#16) ((and_opMask _).trans (by rw [opField_encI]; rfl)) rfl

theorem reservedOp1B : Statement .reservedOp1B := fun _ =>
  covers_of (w := encI 0x1B#6 0 0 0#16) ((and_opMask _).trans (by rw [opField_encI]; rfl)) rfl

theorem reservedOp1C : Statement .reservedOp1C := fun _ =>
  covers_of (w := encI 0x1C#6 0 0 0#16) ((and_opMask _).trans (by rw [opField_encI]; rfl)) rfl

theorem reservedOp1D : Statement .reservedOp1D := fun _ =>
  covers_of (w := encI 0x1D#6 0 0 0#16) ((and_opMask _).trans (by rw [opField_encI]; rfl)) rfl

theorem reservedOp1E : Statement .reservedOp1E := fun _ =>
  covers_of (w := encI 0x1E#6 0 0 0#16) ((and_opMask _).trans (by rw [opField_encI]; rfl)) rfl

theorem reservedOp1F : Statement .reservedOp1F := fun _ =>
  covers_of (w := encI 0x1F#6 0 0 0#16) ((and_opMask _).trans (by rw [opField_encI]; rfl)) rfl

theorem reservedOp27 : Statement .reservedOp27 := fun _ =>
  covers_of (w := encI 0x27#6 0 0 0#16) ((and_opMask _).trans (by rw [opField_encI]; rfl)) rfl

theorem reservedOp2C : Statement .reservedOp2C := fun _ =>
  covers_of (w := encI 0x2C#6 0 0 0#16) ((and_opMask _).trans (by rw [opField_encI]; rfl)) rfl

theorem reservedOp2D : Statement .reservedOp2D := fun _ =>
  covers_of (w := encI 0x2D#6 0 0 0#16) ((and_opMask _).trans (by rw [opField_encI]; rfl)) rfl

theorem reservedOp2F : Statement .reservedOp2F := fun _ =>
  covers_of (w := encI 0x2F#6 0 0 0#16) ((and_opMask _).trans (by rw [opField_encI]; rfl)) rfl

theorem reservedOp34 : Statement .reservedOp34 := fun _ =>
  covers_of (w := encI 0x34#6 0 0 0#16) ((and_opMask _).trans (by rw [opField_encI]; rfl)) rfl

theorem reservedOp35 : Statement .reservedOp35 := fun _ =>
  covers_of (w := encI 0x35#6 0 0 0#16) ((and_opMask _).trans (by rw [opField_encI]; rfl)) rfl

theorem reservedOp36 : Statement .reservedOp36 := fun _ =>
  covers_of (w := encI 0x36#6 0 0 0#16) ((and_opMask _).trans (by rw [opField_encI]; rfl)) rfl

theorem reservedOp37 : Statement .reservedOp37 := fun _ =>
  covers_of (w := encI 0x37#6 0 0 0#16) ((and_opMask _).trans (by rw [opField_encI]; rfl)) rfl

theorem reservedOp3C : Statement .reservedOp3C := fun _ =>
  covers_of (w := encI 0x3C#6 0 0 0#16) ((and_opMask _).trans (by rw [opField_encI]; rfl)) rfl

theorem reservedOp3D : Statement .reservedOp3D := fun _ =>
  covers_of (w := encI 0x3D#6 0 0 0#16) ((and_opMask _).trans (by rw [opField_encI]; rfl)) rfl

theorem reservedOp3E : Statement .reservedOp3E := fun _ =>
  covers_of (w := encI 0x3E#6 0 0 0#16) ((and_opMask _).trans (by rw [opField_encI]; rfl)) rfl

theorem reservedOp3F : Statement .reservedOp3F := fun _ =>
  covers_of (w := encI 0x3F#6 0 0 0#16) ((and_opMask _).trans (by rw [opField_encI]; rfl)) rfl

theorem reservedFunct01 : Statement .reservedFunct01 := fun _ =>
  covers_of (w := encR 0 0 0 0#5 0x01#6) ((and_functMask _).trans (by rw [opField_encR, functField_encR]; rfl)) rfl

theorem reservedFunct05 : Statement .reservedFunct05 := fun _ =>
  covers_of (w := encR 0 0 0 0#5 0x05#6) ((and_functMask _).trans (by rw [opField_encR, functField_encR]; rfl)) rfl

theorem reservedFunct0A : Statement .reservedFunct0A := fun _ =>
  covers_of (w := encR 0 0 0 0#5 0x0A#6) ((and_functMask _).trans (by rw [opField_encR, functField_encR]; rfl)) rfl

theorem reservedFunct0B : Statement .reservedFunct0B := fun _ =>
  covers_of (w := encR 0 0 0 0#5 0x0B#6) ((and_functMask _).trans (by rw [opField_encR, functField_encR]; rfl)) rfl

theorem reservedFunct0E : Statement .reservedFunct0E := fun _ =>
  covers_of (w := encR 0 0 0 0#5 0x0E#6) ((and_functMask _).trans (by rw [opField_encR, functField_encR]; rfl)) rfl

theorem reservedFunct0F : Statement .reservedFunct0F := fun _ =>
  covers_of (w := encR 0 0 0 0#5 0x0F#6) ((and_functMask _).trans (by rw [opField_encR, functField_encR]; rfl)) rfl

theorem reservedFunct14 : Statement .reservedFunct14 := fun _ =>
  covers_of (w := encR 0 0 0 0#5 0x14#6) ((and_functMask _).trans (by rw [opField_encR, functField_encR]; rfl)) rfl

theorem reservedFunct15 : Statement .reservedFunct15 := fun _ =>
  covers_of (w := encR 0 0 0 0#5 0x15#6) ((and_functMask _).trans (by rw [opField_encR, functField_encR]; rfl)) rfl

theorem reservedFunct16 : Statement .reservedFunct16 := fun _ =>
  covers_of (w := encR 0 0 0 0#5 0x16#6) ((and_functMask _).trans (by rw [opField_encR, functField_encR]; rfl)) rfl

theorem reservedFunct17 : Statement .reservedFunct17 := fun _ =>
  covers_of (w := encR 0 0 0 0#5 0x17#6) ((and_functMask _).trans (by rw [opField_encR, functField_encR]; rfl)) rfl

theorem reservedFunct1C : Statement .reservedFunct1C := fun _ =>
  covers_of (w := encR 0 0 0 0#5 0x1C#6) ((and_functMask _).trans (by rw [opField_encR, functField_encR]; rfl)) rfl

theorem reservedFunct1D : Statement .reservedFunct1D := fun _ =>
  covers_of (w := encR 0 0 0 0#5 0x1D#6) ((and_functMask _).trans (by rw [opField_encR, functField_encR]; rfl)) rfl

theorem reservedFunct1E : Statement .reservedFunct1E := fun _ =>
  covers_of (w := encR 0 0 0 0#5 0x1E#6) ((and_functMask _).trans (by rw [opField_encR, functField_encR]; rfl)) rfl

theorem reservedFunct1F : Statement .reservedFunct1F := fun _ =>
  covers_of (w := encR 0 0 0 0#5 0x1F#6) ((and_functMask _).trans (by rw [opField_encR, functField_encR]; rfl)) rfl

theorem reservedFunct28 : Statement .reservedFunct28 := fun _ =>
  covers_of (w := encR 0 0 0 0#5 0x28#6) ((and_functMask _).trans (by rw [opField_encR, functField_encR]; rfl)) rfl

theorem reservedFunct29 : Statement .reservedFunct29 := fun _ =>
  covers_of (w := encR 0 0 0 0#5 0x29#6) ((and_functMask _).trans (by rw [opField_encR, functField_encR]; rfl)) rfl

theorem reservedFunct2C : Statement .reservedFunct2C := fun _ =>
  covers_of (w := encR 0 0 0 0#5 0x2C#6) ((and_functMask _).trans (by rw [opField_encR, functField_encR]; rfl)) rfl

theorem reservedFunct2D : Statement .reservedFunct2D := fun _ =>
  covers_of (w := encR 0 0 0 0#5 0x2D#6) ((and_functMask _).trans (by rw [opField_encR, functField_encR]; rfl)) rfl

theorem reservedFunct2E : Statement .reservedFunct2E := fun _ =>
  covers_of (w := encR 0 0 0 0#5 0x2E#6) ((and_functMask _).trans (by rw [opField_encR, functField_encR]; rfl)) rfl

theorem reservedFunct2F : Statement .reservedFunct2F := fun _ =>
  covers_of (w := encR 0 0 0 0#5 0x2F#6) ((and_functMask _).trans (by rw [opField_encR, functField_encR]; rfl)) rfl

theorem reservedFunct30 : Statement .reservedFunct30 := fun _ =>
  covers_of (w := encR 0 0 0 0#5 0x30#6) ((and_functMask _).trans (by rw [opField_encR, functField_encR]; rfl)) rfl

theorem reservedFunct31 : Statement .reservedFunct31 := fun _ =>
  covers_of (w := encR 0 0 0 0#5 0x31#6) ((and_functMask _).trans (by rw [opField_encR, functField_encR]; rfl)) rfl

theorem reservedFunct32 : Statement .reservedFunct32 := fun _ =>
  covers_of (w := encR 0 0 0 0#5 0x32#6) ((and_functMask _).trans (by rw [opField_encR, functField_encR]; rfl)) rfl

theorem reservedFunct33 : Statement .reservedFunct33 := fun _ =>
  covers_of (w := encR 0 0 0 0#5 0x33#6) ((and_functMask _).trans (by rw [opField_encR, functField_encR]; rfl)) rfl

theorem reservedFunct34 : Statement .reservedFunct34 := fun _ =>
  covers_of (w := encR 0 0 0 0#5 0x34#6) ((and_functMask _).trans (by rw [opField_encR, functField_encR]; rfl)) rfl

theorem reservedFunct35 : Statement .reservedFunct35 := fun _ =>
  covers_of (w := encR 0 0 0 0#5 0x35#6) ((and_functMask _).trans (by rw [opField_encR, functField_encR]; rfl)) rfl

theorem reservedFunct36 : Statement .reservedFunct36 := fun _ =>
  covers_of (w := encR 0 0 0 0#5 0x36#6) ((and_functMask _).trans (by rw [opField_encR, functField_encR]; rfl)) rfl

theorem reservedFunct37 : Statement .reservedFunct37 := fun _ =>
  covers_of (w := encR 0 0 0 0#5 0x37#6) ((and_functMask _).trans (by rw [opField_encR, functField_encR]; rfl)) rfl

theorem reservedFunct38 : Statement .reservedFunct38 := fun _ =>
  covers_of (w := encR 0 0 0 0#5 0x38#6) ((and_functMask _).trans (by rw [opField_encR, functField_encR]; rfl)) rfl

theorem reservedFunct39 : Statement .reservedFunct39 := fun _ =>
  covers_of (w := encR 0 0 0 0#5 0x39#6) ((and_functMask _).trans (by rw [opField_encR, functField_encR]; rfl)) rfl

theorem reservedFunct3A : Statement .reservedFunct3A := fun _ =>
  covers_of (w := encR 0 0 0 0#5 0x3A#6) ((and_functMask _).trans (by rw [opField_encR, functField_encR]; rfl)) rfl

theorem reservedFunct3B : Statement .reservedFunct3B := fun _ =>
  covers_of (w := encR 0 0 0 0#5 0x3B#6) ((and_functMask _).trans (by rw [opField_encR, functField_encR]; rfl)) rfl

theorem reservedFunct3C : Statement .reservedFunct3C := fun _ =>
  covers_of (w := encR 0 0 0 0#5 0x3C#6) ((and_functMask _).trans (by rw [opField_encR, functField_encR]; rfl)) rfl

theorem reservedFunct3D : Statement .reservedFunct3D := fun _ =>
  covers_of (w := encR 0 0 0 0#5 0x3D#6) ((and_functMask _).trans (by rw [opField_encR, functField_encR]; rfl)) rfl

theorem reservedFunct3E : Statement .reservedFunct3E := fun _ =>
  covers_of (w := encR 0 0 0 0#5 0x3E#6) ((and_functMask _).trans (by rw [opField_encR, functField_encR]; rfl)) rfl

theorem reservedFunct3F : Statement .reservedFunct3F := fun _ =>
  covers_of (w := encR 0 0 0 0#5 0x3F#6) ((and_functMask _).trans (by rw [opField_encR, functField_encR]; rfl)) rfl

end Sys2Proof.Laws.TableRow
end

