-- ==== Sys2Proof/Laws/Step.lean ====
section
/-! SUPPORT. Everything a step can do, said once: how an instruction ends, and how a step ends. -/

namespace Sys2Proof.Machine

/-- What an instruction may do to the state before the end of its step. -/
inductive Middle (s : State) : State → Prop where
  | same : Middle s s
  | hilo (h l : Word) (hb : s.hiloBlocked = false) : Middle s (s.setHiLo h l)
  | read (a : Word) (w : Width) : Middle s (s.memRead a w).2
  | write (a : Word) (w : Width) (v : Word) : Middle s (s.memWrite a w v)
  | writeMasked (a v : Word) (mask : BitVec 4) : Middle s (s.memWriteMasked a v mask)
  | cop0Seen (i : CopReg) (hb : s.cop0Blocked = false) : Middle s (s.cop0Read i).2
  | cop0Stored (i : CopReg) (a v : Word) (hb : s.cop0Blocked = false) : Middle s ((s.cop0Read i).2.memWrite a .word v)
  | cop0Write (i : CopReg) (v : Word) (hb : s.cop0Blocked = false) : Middle s (s.cop0Write i v)
  | cop0Loaded (a : Word) (i : CopReg) (v : Word) (hb : s.cop0Blocked = false) :
      Middle s ((s.memRead a .word).2.cop0Write i v)
  | rfe (hb : s.cop0Blocked = false) : Middle s s.restoreMode

/-- How an instruction that is a branch or jump (or not) may end: an exception, or a completed effect after one of the
middle states; a branch completes outside a slot only, and only a branch asks for a jump. -/
def Ends (s : State) (branch : Bool) (o : Host.Outcome State Fault Refusal) : Prop :=
  ∀ t, o = .next t →
    (∃ e : Exc, e ≠ .int ∧ t = s.takeException e s.currentPc) ∨
    (∃ (u : State) (e : Effect), Middle s u ∧ t = u.retire e ∧ e.branch = branch ∧
      (branch = true → s.slot = false) ∧ (e.jump.isSome = true → branch = true))

theorem ends_fault {s : State} {b : Bool} {f : Fault} : Ends s b (.fault f) := fun _ h => by cases h
theorem ends_refused {s : State} {b : Bool} {r : Refusal} : Ends s b (.refused r) := fun _ h => by cases h

theorem ends_raise {s : State} {b : Bool} {e : Exc} (he : e ≠ .int) : Ends s b (s.raise e) := by
  intro t h
  cases h
  exact .inl ⟨e, he, rfl⟩

theorem ends_complete {s u : State} (hu : Middle s u) {e : Effect} (hb : e.branch = false) (hj : e.jump = none) :
    Ends s false (u.complete e) := by
  intro t h
  cases h
  exact .inr ⟨u, e, hu, rfl, hb, fun h => (by cases h), fun h => by rw [hj] at h; cases h⟩

theorem ends_completeHiLo {s : State} {h l : Word} : Ends s false (s.completeHiLo h l) := by
  unfold State.completeHiLo
  split
  · exact ends_fault
  · next hb => exact ends_complete (.hilo h l (by simpa using hb)) rfl rfl

theorem ends_completeBranch {s : State} {e : Effect} : Ends s true (s.completeBranch e) := by
  unfold State.completeBranch
  split
  · exact ends_refused
  · next hs =>
    intro t h
    cases h
    exact .inr ⟨s, _, .same, rfl, rfl, fun _ => by simpa using hs, fun _ => rfl⟩

theorem ends_withCop0 {s : State} {b : Bool} {k : Host.Outcome State Fault Refusal}
    (h : s.cop0Blocked = false → Ends s b k) : Ends s b (s.withCop0 k) := by
  unfold State.withCop0
  split
  · exact ends_raise (by simp)
  · next hb => exact h (by simpa using hb)

theorem ends_cop2 {s : State} : Ends s false s.cop2 := by
  unfold State.cop2
  split
  · exact ends_refused
  · exact ends_raise (by simp)

theorem ends_loading {s : State} {w : Width} {ea : Word} {k : Word → State → Host.Outcome State Fault Refusal}
    (hk : ∀ v t, ∃ rt x, k v t = t.completeLoad rt x) : Ends s false (s.loading w ea k) := by
  unfold State.loading
  split
  · exact ends_raise (by simp)
  · obtain ⟨rt, x, h⟩ := hk (s.memRead ea w).1 (s.memRead ea w).2
    rw [h]
    exact ends_complete (.read ea w) rfl rfl

theorem ends_loadingWord {s : State} {ea : Word} {k : Word → State → Host.Outcome State Fault Refusal}
    (hk : ∀ v t, ∃ rt x, k v t = t.completeLoad rt x) : Ends s false (s.loadingWord ea k) := by
  unfold State.loadingWord
  split
  · exact ends_raise (by simp)
  · obtain ⟨rt, x, h⟩ := hk (s.memRead (alignedWord ea) .word).1 (s.memRead (alignedWord ea) .word).2
    rw [h]
    exact ends_complete (.read _ .word) rfl rfl

theorem ends_storing {s : State} {w : Width} {ea v : Word} : Ends s false (s.storing w ea v) := by
  unfold State.storing
  split
  · exact ends_raise (by simp)
  · exact ends_complete (.write ea w v) rfl rfl

theorem ends_storingMasked {s : State} {ea v : Word} {mask : BitVec 4} : Ends s false (s.storingMasked ea v mask) := by
  unfold State.storingMasked
  split
  · exact ends_raise (by simp)
  · exact ends_complete (.writeMasked _ v mask) rfl rfl

theorem ends_add {s : State} {c : Bool} {d : Reg} {v : Word} :
    Ends s false (if c then s.raise .ov else s.completeWrite d v) := by
  split
  · exact ends_raise (by simp)
  · exact ends_complete .same rfl rfl

theorem ends_lwc0 {s : State} {cr : CopReg} {ea : Word} :
    Ends s false (s.withCop0 (s.loading .word ea fun v t => (t.cop0Write cr v).complete { })) := by
  refine ends_withCop0 fun hb => ?_
  unfold State.loading
  split
  · exact ends_raise (by simp)
  · exact ends_complete (.cop0Loaded ea cr _ hb) rfl rfl

theorem ends_swc0 {s : State} {cr : CopReg} {c : Bool} {ea v : Word} :
    Ends s false (s.withCop0
      (if c then s.raise (.adES ea) else ((s.cop0Read cr).2.memWrite ea .word v).complete { })) := by
  refine ends_withCop0 fun hb => ?_
  split
  · exact ends_raise (by simp)
  · exact ends_complete (.cop0Stored cr ea v hb) rfl rfl

theorem ends_execAdd (a b c : Reg) (s : State) : Ends s false (execAdd a b c s) := by
  unfold execAdd; exact ends_add

theorem ends_execSub (a b c : Reg) (s : State) : Ends s false (execSub a b c s) := by
  unfold execSub; exact ends_add

theorem ends_execAddi (a b : Reg) (c : BitVec 16) (s : State) : Ends s false (execAddi a b c s) := by
  unfold execAddi; exact ends_add

theorem ends_execLb (a b : Reg) (c : BitVec 16) (s : State) : Ends s false (execLb a b c s) := by
  unfold execLb; exact ends_loading fun _ _ => ⟨_, _, rfl⟩

theorem ends_execLbu (a b : Reg) (c : BitVec 16) (s : State) : Ends s false (execLbu a b c s) := by
  unfold execLbu; exact ends_loading fun _ _ => ⟨_, _, rfl⟩

theorem ends_execLh (a b : Reg) (c : BitVec 16) (s : State) : Ends s false (execLh a b c s) := by
  unfold execLh; exact ends_loading fun _ _ => ⟨_, _, rfl⟩

theorem ends_execLhu (a b : Reg) (c : BitVec 16) (s : State) : Ends s false (execLhu a b c s) := by
  unfold execLhu; exact ends_loading fun _ _ => ⟨_, _, rfl⟩

theorem ends_execLw (a b : Reg) (c : BitVec 16) (s : State) : Ends s false (execLw a b c s) := by
  unfold execLw; exact ends_loading fun _ _ => ⟨_, _, rfl⟩

theorem ends_execLwl (a b : Reg) (c : BitVec 16) (s : State) : Ends s false (execLwl a b c s) := by
  unfold execLwl; exact ends_loadingWord fun _ _ => ⟨_, _, rfl⟩

theorem ends_execLwr (a b : Reg) (c : BitVec 16) (s : State) : Ends s false (execLwr a b c s) := by
  unfold execLwr; exact ends_loadingWord fun _ _ => ⟨_, _, rfl⟩

theorem ends_execSb (a b : Reg) (c : BitVec 16) (s : State) : Ends s false (execSb a b c s) := by
  unfold execSb; exact ends_storing

theorem ends_execSh (a b : Reg) (c : BitVec 16) (s : State) : Ends s false (execSh a b c s) := by
  unfold execSh; exact ends_storing

theorem ends_execSw (a b : Reg) (c : BitVec 16) (s : State) : Ends s false (execSw a b c s) := by
  unfold execSw; exact ends_storing

theorem ends_execSwl (a b : Reg) (c : BitVec 16) (s : State) : Ends s false (execSwl a b c s) := by
  unfold execSwl; exact ends_storingMasked

theorem ends_execSwr (a b : Reg) (c : BitVec 16) (s : State) : Ends s false (execSwr a b c s) := by
  unfold execSwr; exact ends_storingMasked

theorem ends_execLwc0 (a b : Reg) (c : BitVec 16) (s : State) : Ends s false (execLwc0 a b c s) := by
  unfold execLwc0; exact ends_lwc0

theorem ends_execSwc0 (a b : Reg) (c : BitVec 16) (s : State) : Ends s false (execSwc0 a b c s) := by
  unfold execSwc0; exact ends_swc0

/-- How every instruction ends. -/
theorem exec_ends : ∀ (i : Instr) (s : State), Ends s (isBranchOrJump i) (exec i s)
  | .sll _ _ _, _ => ends_complete .same rfl rfl
  | .srl _ _ _, _ => ends_complete .same rfl rfl
  | .sra _ _ _, _ => ends_complete .same rfl rfl
  | .sllv _ _ _, _ => ends_complete .same rfl rfl
  | .srlv _ _ _, _ => ends_complete .same rfl rfl
  | .srav _ _ _, _ => ends_complete .same rfl rfl
  | .add a b c, s => ends_execAdd a b c s
  | .addu _ _ _, _ => ends_complete .same rfl rfl
  | .sub a b c, s => ends_execSub a b c s
  | .subu _ _ _, _ => ends_complete .same rfl rfl
  | .and _ _ _, _ => ends_complete .same rfl rfl
  | .or _ _ _, _ => ends_complete .same rfl rfl
  | .xor _ _ _, _ => ends_complete .same rfl rfl
  | .nor _ _ _, _ => ends_complete .same rfl rfl
  | .slt _ _ _, _ => ends_complete .same rfl rfl
  | .sltu _ _ _, _ => ends_complete .same rfl rfl
  | .addi a b c, s => ends_execAddi a b c s
  | .addiu _ _ _, _ => ends_complete .same rfl rfl
  | .slti _ _ _, _ => ends_complete .same rfl rfl
  | .sltiu _ _ _, _ => ends_complete .same rfl rfl
  | .andi _ _ _, _ => ends_complete .same rfl rfl
  | .ori _ _ _, _ => ends_complete .same rfl rfl
  | .xori _ _ _, _ => ends_complete .same rfl rfl
  | .lui _ _, _ => ends_complete .same rfl rfl
  | .mult _ _, _ => ends_completeHiLo
  | .multu _ _, _ => ends_completeHiLo
  | .div _ _, _ => ends_completeHiLo
  | .divu _ _, _ => ends_completeHiLo
  | .mfhi _, _ => ends_complete .same rfl rfl
  | .mflo _, _ => ends_complete .same rfl rfl
  | .mthi _, _ => ends_completeHiLo
  | .mtlo _, _ => ends_completeHiLo
  | .beq _ _ _, _ => ends_completeBranch
  | .bne _ _ _, _ => ends_completeBranch
  | .blez _ _, _ => ends_completeBranch
  | .bgtz _ _, _ => ends_completeBranch
  | .bltz _ _, _ => ends_completeBranch
  | .bgez _ _, _ => ends_completeBranch
  | .bltzal _ _, _ => ends_completeBranch
  | .bgezal _ _, _ => ends_completeBranch
  | .j _, _ => ends_completeBranch
  | .jal _, _ => ends_completeBranch
  | .jr _, _ => ends_completeBranch
  | .jalr _ _, _ => ends_completeBranch
  | .lb a b c, s => ends_execLb a b c s
  | .lbu a b c, s => ends_execLbu a b c s
  | .lh a b c, s => ends_execLh a b c s
  | .lhu a b c, s => ends_execLhu a b c s
  | .lw a b c, s => ends_execLw a b c s
  | .lwl a b c, s => ends_execLwl a b c s
  | .lwr a b c, s => ends_execLwr a b c s
  | .sb a b c, s => ends_execSb a b c s
  | .sh a b c, s => ends_execSh a b c s
  | .sw a b c, s => ends_execSw a b c s
  | .swl a b c, s => ends_execSwl a b c s
  | .swr a b c, s => ends_execSwr a b c s
  | .lwc0 a b c, s => ends_execLwc0 a b c s
  | .swc0 a b c, s => ends_execSwc0 a b c s
  | .syscall _, _ => ends_raise (e := .sys) (by simp)
  | .brk _, _ => ends_raise (e := .bp) (by simp)
  | .mfc0 _ _, _ => ends_withCop0 fun hb => ends_complete (.cop0Seen _ hb) rfl rfl
  | .mtc0 _ _, _ => ends_withCop0 fun hb => ends_complete (.cop0Write _ _ hb) rfl rfl
  | .bc0f _, _ => ends_withCop0 fun _ => ends_complete .same rfl rfl
  | .bc0t _, _ => ends_withCop0 fun _ => ends_complete .same rfl rfl
  | .cfc0 _ _, _ => ends_withCop0 fun _ => ends_complete .same rfl rfl
  | .ctc0 _ _, _ => ends_withCop0 fun _ => ends_complete .same rfl rfl
  | .rfe, _ => ends_withCop0 fun hb => ends_complete (.rfe hb) rfl rfl
  | .bcondzRt02 _ _, _ => ends_completeBranch
  | .bcondzRt03 _ _, _ => ends_completeBranch
  | .bcondzRt04 _ _, _ => ends_completeBranch
  | .bcondzRt05 _ _, _ => ends_completeBranch
  | .bcondzRt06 _ _, _ => ends_completeBranch
  | .bcondzRt07 _ _, _ => ends_completeBranch
  | .bcondzRt08 _ _, _ => ends_completeBranch
  | .bcondzRt09 _ _, _ => ends_completeBranch
  | .bcondzRt0A _ _, _ => ends_completeBranch
  | .bcondzRt0B _ _, _ => ends_completeBranch
  | .bcondzRt0C _ _, _ => ends_completeBranch
  | .bcondzRt0D _ _, _ => ends_completeBranch
  | .bcondzRt0E _ _, _ => ends_completeBranch
  | .bcondzRt0F _ _, _ => ends_completeBranch
  | .bcondzRt12 _ _, _ => ends_completeBranch
  | .bcondzRt13 _ _, _ => ends_completeBranch
  | .bcondzRt14 _ _, _ => ends_completeBranch
  | .bcondzRt15 _ _, _ => ends_completeBranch
  | .bcondzRt16 _ _, _ => ends_completeBranch
  | .bcondzRt17 _ _, _ => ends_completeBranch
  | .bcondzRt18 _ _, _ => ends_completeBranch
  | .bcondzRt19 _ _, _ => ends_completeBranch
  | .bcondzRt1A _ _, _ => ends_completeBranch
  | .bcondzRt1B _ _, _ => ends_completeBranch
  | .bcondzRt1C _ _, _ => ends_completeBranch
  | .bcondzRt1D _ _, _ => ends_completeBranch
  | .bcondzRt1E _ _, _ => ends_completeBranch
  | .bcondzRt1F _ _, _ => ends_completeBranch
  | .cop0Generic _, _ => ends_withCop0 fun _ => ends_complete .same rfl rfl
  | .cop0Rs01, _ => ends_withCop0 fun _ => ends_refused
  | .cop0Rs03, _ => ends_withCop0 fun _ => ends_refused
  | .cop0Rs05, _ => ends_withCop0 fun _ => ends_refused
  | .cop0Rs07, _ => ends_withCop0 fun _ => ends_refused
  | .cop0Rs09, _ => ends_withCop0 fun _ => ends_refused
  | .cop0Rs0A, _ => ends_withCop0 fun _ => ends_refused
  | .cop0Rs0B, _ => ends_withCop0 fun _ => ends_refused
  | .cop0Rs0C, _ => ends_withCop0 fun _ => ends_refused
  | .cop0Rs0D, _ => ends_withCop0 fun _ => ends_refused
  | .cop0Rs0E, _ => ends_withCop0 fun _ => ends_refused
  | .cop0Rs0F, _ => ends_withCop0 fun _ => ends_refused
  | .cop0Rs08Other _, _ => ends_withCop0 fun _ => ends_refused
  | .cop1, _ => ends_raise (e := .cpU 1#2) (by simp)
  | .cop3, _ => ends_raise (e := .cpU 3#2) (by simp)
  | .lwc1, _ => ends_raise (e := .cpU 1#2) (by simp)
  | .lwc3, _ => ends_raise (e := .cpU 3#2) (by simp)
  | .swc1, _ => ends_raise (e := .cpU 1#2) (by simp)
  | .swc3, _ => ends_raise (e := .cpU 3#2) (by simp)
  | .cop2, _ => ends_cop2
  | .lwc2, _ => ends_cop2
  | .swc2, _ => ends_cop2
  | .reservedOp14, _ => ends_raise (e := .ri) (by simp)
  | .reservedOp15, _ => ends_raise (e := .ri) (by simp)
  | .reservedOp16, _ => ends_raise (e := .ri) (by simp)
  | .reservedOp17, _ => ends_raise (e := .ri) (by simp)
  | .reservedOp18, _ => ends_raise (e := .ri) (by simp)
  | .reservedOp19, _ => ends_raise (e := .ri) (by simp)
  | .reservedOp1A, _ => ends_raise (e := .ri) (by simp)
  | .reservedOp1B, _ => ends_raise (e := .ri) (by simp)
  | .reservedOp1C, _ => ends_raise (e := .ri) (by simp)
  | .reservedOp1D, _ => ends_raise (e := .ri) (by simp)
  | .reservedOp1E, _ => ends_raise (e := .ri) (by simp)
  | .reservedOp1F, _ => ends_raise (e := .ri) (by simp)
  | .reservedOp27, _ => ends_raise (e := .ri) (by simp)
  | .reservedOp2C, _ => ends_raise (e := .ri) (by simp)
  | .reservedOp2D, _ => ends_raise (e := .ri) (by simp)
  | .reservedOp2F, _ => ends_raise (e := .ri) (by simp)
  | .reservedOp34, _ => ends_raise (e := .ri) (by simp)
  | .reservedOp35, _ => ends_raise (e := .ri) (by simp)
  | .reservedOp36, _ => ends_raise (e := .ri) (by simp)
  | .reservedOp37, _ => ends_raise (e := .ri) (by simp)
  | .reservedOp3C, _ => ends_raise (e := .ri) (by simp)
  | .reservedOp3D, _ => ends_raise (e := .ri) (by simp)
  | .reservedOp3E, _ => ends_raise (e := .ri) (by simp)
  | .reservedOp3F, _ => ends_raise (e := .ri) (by simp)
  | .reservedFunct01, _ => ends_raise (e := .ri) (by simp)
  | .reservedFunct05, _ => ends_raise (e := .ri) (by simp)
  | .reservedFunct0A, _ => ends_raise (e := .ri) (by simp)
  | .reservedFunct0B, _ => ends_raise (e := .ri) (by simp)
  | .reservedFunct0E, _ => ends_raise (e := .ri) (by simp)
  | .reservedFunct0F, _ => ends_raise (e := .ri) (by simp)
  | .reservedFunct14, _ => ends_raise (e := .ri) (by simp)
  | .reservedFunct15, _ => ends_raise (e := .ri) (by simp)
  | .reservedFunct16, _ => ends_raise (e := .ri) (by simp)
  | .reservedFunct17, _ => ends_raise (e := .ri) (by simp)
  | .reservedFunct1C, _ => ends_raise (e := .ri) (by simp)
  | .reservedFunct1D, _ => ends_raise (e := .ri) (by simp)
  | .reservedFunct1E, _ => ends_raise (e := .ri) (by simp)
  | .reservedFunct1F, _ => ends_raise (e := .ri) (by simp)
  | .reservedFunct28, _ => ends_raise (e := .ri) (by simp)
  | .reservedFunct29, _ => ends_raise (e := .ri) (by simp)
  | .reservedFunct2C, _ => ends_raise (e := .ri) (by simp)
  | .reservedFunct2D, _ => ends_raise (e := .ri) (by simp)
  | .reservedFunct2E, _ => ends_raise (e := .ri) (by simp)
  | .reservedFunct2F, _ => ends_raise (e := .ri) (by simp)
  | .reservedFunct30, _ => ends_raise (e := .ri) (by simp)
  | .reservedFunct31, _ => ends_raise (e := .ri) (by simp)
  | .reservedFunct32, _ => ends_raise (e := .ri) (by simp)
  | .reservedFunct33, _ => ends_raise (e := .ri) (by simp)
  | .reservedFunct34, _ => ends_raise (e := .ri) (by simp)
  | .reservedFunct35, _ => ends_raise (e := .ri) (by simp)
  | .reservedFunct36, _ => ends_raise (e := .ri) (by simp)
  | .reservedFunct37, _ => ends_raise (e := .ri) (by simp)
  | .reservedFunct38, _ => ends_raise (e := .ri) (by simp)
  | .reservedFunct39, _ => ends_raise (e := .ri) (by simp)
  | .reservedFunct3A, _ => ends_raise (e := .ri) (by simp)
  | .reservedFunct3B, _ => ends_raise (e := .ri) (by simp)
  | .reservedFunct3C, _ => ends_raise (e := .ri) (by simp)
  | .reservedFunct3D, _ => ends_raise (e := .ri) (by simp)
  | .reservedFunct3E, _ => ends_raise (e := .ri) (by simp)
  | .reservedFunct3F, _ => ends_raise (e := .ri) (by simp)

/-! ### What an instruction leaves before the end of its step -/

theorem State.restoreMode_cop0 (s : State) : s.restoreMode.cop0 = { s.cop0 with sr := Sr.pop s.cop0.sr } := rfl

/-- No instruction touches these between the fetch and the end of the step. -/
theorem Middle.frame {s u : State} (h : Middle s u) :
    u.gpr = s.gpr ∧ u.pc = s.pc ∧ u.currentPc = s.currentPc ∧ u.ld = s.ld ∧ u.bd = s.bd ∧ u.slot = s.slot ∧
      u.hiloAge = s.hiloAge ∧ u.status = s.status ∧ u.params = s.params := by
  cases h <;> simp [State.restoreMode]

/-- Only the COP0 writes and RFE change the COP0 bank, and only where COP0 is usable. -/
theorem Middle.cop0 {s u : State} (h : Middle s u) :
    u.cop0 = s.cop0 ∨ (s.cop0Blocked = false ∧
      ((∃ i v, u.cop0 = s.cop0.written i v) ∨ u.cop0 = { s.cop0 with sr := Sr.pop s.cop0.sr })) := by
  cases h with
  | cop0Write i v hb => exact .inr ⟨hb, .inl ⟨i, v, State.cop0Write_cop0 s i v⟩⟩
  | cop0Loaded a i v hb =>
    refine .inr ⟨hb, .inl ⟨i, v, ?_⟩⟩
    rw [State.cop0Write_cop0, State.memRead_cop0]
  | rfe hb => exact .inr ⟨hb, .inr rfl⟩
  | _ => exact .inl (by simp)

/-- Memory changes through the byte stores only. -/
theorem Middle.mem {s u : State} (h : Middle s u) :
    u.mem = s.mem ∨ ∃ p bytes, u.mem = s.mem.storeAll s.params (Sr.isC s.cop0.sr) p bytes := by
  have hw : ∀ (x : State) (a : Word) (w : Width) (v : Word), x.mem = s.mem → x.params = s.params → x.cop0 = s.cop0 →
      (x.memWrite a w v).mem = s.mem ∨
        ∃ p bytes, (x.memWrite a w v).mem = s.mem.storeAll s.params (Sr.isC s.cop0.sr) p bytes := by
    intro x a w v hm hp hc
    unfold State.memWrite
    rw [hm, hp, hc]
    split
    · exact .inr ⟨_, _, rfl⟩
    · exact .inr ⟨_, _, rfl⟩
    · exact .inr ⟨_, _, rfl⟩
    · exact .inl rfl
  cases h with
  | write a w v => exact hw s a w v rfl rfl rfl
  | cop0Stored i a v hb => exact hw _ a .word v (by simp) (by simp) (by simp)
  | writeMasked a v mask =>
    unfold State.memWriteMasked
    split
    · exact .inr ⟨_, _, rfl⟩
    · exact .inr ⟨_, _, rfl⟩
    · exact .inr ⟨_, _, rfl⟩
    · exact .inl rfl
  | _ => exact .inl (by simp [State.restoreMode])

theorem Middle.mem_wf {s u : State} (h : Middle s u) (hm : s.mem.wf) : u.mem.wf := by
  rcases h.mem with e | ⟨p, bytes, e⟩
  · rw [e]; exact hm
  · rw [e]; exact Memory.wf_storeAll bytes hm

theorem Middle.bios {s u : State} (h : Middle s u) : u.mem.bios = s.mem.bios := by
  rcases h.mem with e | ⟨p, bytes, e⟩
  · rw [e]
  · rw [e]; exact Memory.bios_storeAll bytes s.mem

/-- With the cache isolated no instruction changes RAM. -/
theorem Middle.ram {s u : State} (h : Middle s u) (hi : Sr.isC s.cop0.sr = true) : u.mem.ram = s.mem.ram := by
  rcases h.mem with e | ⟨p, bytes, e⟩
  · rw [e]
  · rw [e, hi]; exact Memory.ram_storeAll_isolated bytes s.mem

theorem State.memRead_events (s : State) (a : Word) (w : Width) :
    (s.memRead a w).2.events = s.events ∨ ∃ e, (s.memRead a w).2.events = e :: s.events := by
  unfold State.memRead
  split
  · exact .inl rfl
  · exact .inl rfl
  · exact .inl rfl
  · exact .inr ⟨_, rfl⟩

/-- An instruction makes at most one device access. -/
theorem Middle.events {s u : State} (h : Middle s u) : u.events = s.events ∨ ∃ e, u.events = e :: s.events := by
  cases h with
  | read a w => exact s.memRead_events a w
  | cop0Loaded a i v hb => rw [State.cop0Write_events]; exact s.memRead_events a .word
  | write a w v =>
    rw [State.memWrite_events]
    split
    · exact .inr ⟨_, rfl⟩
    · exact .inl rfl
  | cop0Stored i a v hb =>
    rw [State.memWrite_events, State.cop0Read_events]
    split
    · exact .inr ⟨_, rfl⟩
    · exact .inl rfl
  | writeMasked a v mask =>
    rw [State.memWriteMasked_events]
    split
    · exact .inr ⟨_, rfl⟩
    · exact .inl rfl
  | _ => exact .inl (by simp [State.restoreMode])

/-! ### Register 0 and the latches at the end of a step -/

theorem State.gpr_zero_clearZero (s : State) : s.clearZero.gpr[0] = 0#32 := by
  simp [State.clearZero, State.writeGpr]

theorem State.gpr_zero_retire (s : State) (e : Effect) : (s.retire e).gpr[0] = 0#32 := State.gpr_zero_clearZero _

theorem State.gpr_zero_takeException (s : State) (e : Exc) (v : Word) : (s.takeException e v).gpr[0] = 0#32 :=
  State.gpr_zero_clearZero _

/-- A completed step leaves a branch pending only if it was a branch. -/
theorem State.pending_retire {s : State} {e : Effect} (hj : e.jump.isSome = true → e.branch = true)
    (h : (s.retire e).bd.pending = true) : (s.retire e).slot = true := by
  rw [State.retire_bd] at h
  rw [State.retire_slot]
  cases hb : s.bd.pending
  · rw [hb] at h
    cases hx : e.jump with
    | none => simp [BranchLatch.after, hx, hb] at h
    | some a => exact hj (by simp [hx])
  · rw [hb] at h; simp at h

/-! ### The whole step -/

@[simp] theorem State.afterFetch_gpr (s : State) : s.afterFetch.gpr = s.gpr := by simp [State.afterFetch]
@[simp] theorem State.afterFetch_hi (s : State) : s.afterFetch.hi = s.hi := by simp [State.afterFetch]
@[simp] theorem State.afterFetch_lo (s : State) : s.afterFetch.lo = s.lo := by simp [State.afterFetch]
@[simp] theorem State.afterFetch_pc (s : State) : s.afterFetch.pc = s.pc + 4#32 := rfl
@[simp] theorem State.afterFetch_currentPc (s : State) : s.afterFetch.currentPc = s.pc := rfl
@[simp] theorem State.afterFetch_ld (s : State) : s.afterFetch.ld = s.ld := by simp [State.afterFetch]
@[simp] theorem State.afterFetch_bd (s : State) : s.afterFetch.bd = s.bd := by simp [State.afterFetch]
@[simp] theorem State.afterFetch_slot (s : State) : s.afterFetch.slot = s.slot := by simp [State.afterFetch]
@[simp] theorem State.afterFetch_hiloAge (s : State) : s.afterFetch.hiloAge = s.hiloAge := by simp [State.afterFetch]
@[simp] theorem State.afterFetch_status (s : State) : s.afterFetch.status = s.status := by simp [State.afterFetch]
@[simp] theorem State.afterFetch_cop0 (s : State) : s.afterFetch.cop0 = s.cop0 := by simp [State.afterFetch]
@[simp] theorem State.afterFetch_mem (s : State) : s.afterFetch.mem = s.mem := by simp [State.afterFetch]
@[simp] theorem State.afterFetch_params (s : State) : s.afterFetch.params = s.params := by simp [State.afterFetch]
@[simp] theorem State.afterFetch_events (s : State) : s.afterFetch.events = (s.memRead s.pc .word).2.events := rfl
@[simp] theorem State.afterFetch_draws (s : State) : s.afterFetch.draws = (s.memRead s.pc .word).2.draws := rfl

/-- The ways a step reaches a next state. -/
theorem step_cases {s t : State} (h : step s = .next t) :
    s.status = .running ∧
      ((s.interruptTaken = true ∧ t = s.takeException .int s.pc) ∨
       (s.interruptTaken = false ∧ s.fetchBlocked = true ∧ t = s.takeException (.adEL s.pc) s.pc) ∨
       (s.interruptTaken = false ∧ s.fetchBlocked = false ∧ exec s.nextInstr s.afterFetch = .next t)) := by
  unfold step at h
  cases hs : s.status <;> rw [hs] at h
  · refine ⟨rfl, ?_⟩
    cases hi : s.interruptTaken <;> simp only [hi, if_true, if_false, Bool.false_eq_true] at h
    · cases hf : s.fetchBlocked <;> simp only [hf, if_true, if_false, Bool.false_eq_true] at h
      · exact .inr (.inr ⟨rfl, rfl, h⟩)
      · cases h; exact .inr (.inl ⟨rfl, rfl, rfl⟩)
    · cases h; exact .inl ⟨rfl, rfl⟩
  · cases h
  · cases h

/-- Every next state of a step: an exception entered from the state before or after the fetch, or a completed instruction. -/
theorem step_ends {s t : State} (h : step s = .next t) :
    (∃ e : Exc, t = s.takeException e s.pc) ∨ (∃ e : Exc, t = s.afterFetch.takeException e s.pc) ∨
    (∃ (u : State) (e : Effect), Middle s.afterFetch u ∧ t = u.retire e ∧ e.branch = isBranchOrJump s.nextInstr ∧
      (e.branch = true → s.slot = false) ∧ (e.jump.isSome = true → e.branch = true)) := by
  rcases (step_cases h).2 with ⟨_, e⟩ | ⟨_, _, e⟩ | ⟨_, _, e⟩
  · exact .inl ⟨_, e⟩
  · exact .inl ⟨_, e⟩
  · rcases exec_ends s.nextInstr s.afterFetch t e with ⟨x, _, ht⟩ | ⟨u, x, hu, ht, hb, hs, hj⟩
    · exact .inr (.inl ⟨x, ht⟩)
    · refine .inr (.inr ⟨u, x, hu, ht, hb, ?_, ?_⟩)
      · rw [hb]; intro hx; simpa using hs hx
      · rw [hb]; exact hj

/-- A fetch of stored bytes changes only the two program counters. -/
theorem State.afterFetch_stored {s : State} {w : Word} (ha : isAligned .word s.pc = true) (h : s.holdsWord s.pc w) :
    s.fetched = w ∧ s.afterFetch = { s with currentPc := s.pc, pc := s.pc + 4#32 } := by
  have e := State.memRead_word (isAligned_word ha) h
  refine ⟨congrArg Prod.fst e, ?_⟩
  unfold State.afterFetch
  rw [e]

/-- An interrupt is taken before anything is fetched. -/
theorem step_interrupt {s : State} (hs : s.status = .running) (hi : s.interruptTaken = true) :
    step s = .next (s.takeException .int s.pc) := by
  simp [step, hs, hi]

/-- A fetch that is not allowed takes AdEL. -/
theorem step_fetchError {s : State} (hs : s.status = .running) (hi : s.interruptTaken = false)
    (hf : s.fetchBlocked = true) : step s = .next (s.takeException (.adEL s.pc) s.pc) := by
  simp [step, hs, hi, hf]

/-- Every other step runs the fetched instruction. -/
theorem step_exec {s : State} (hs : s.status = .running) (hi : s.interruptTaken = false) (hf : s.fetchBlocked = false) :
    step s = exec s.nextInstr s.afterFetch := by
  simp [step, hs, hi, hf]

/-- Exception entry leaves kernel mode with interrupts disabled. -/
theorem Entered.kernel {s t : State} {code : BitVec 5} {v : Word} (h : Entered s t code v) :
    t.cop0.sr.getLsbD 1 = false ∧ t.cop0.sr.getLsbD 0 = false := by
  have e (i : Nat) := congrArg (fun x : BitVec 6 => x.getLsbD i) h.status
  have e1 := e 1
  have e0 := e 0
  simp only [BitVec.getLsbD_extractLsb', BitVec.getLsbD_append] at e1 e0
  exact ⟨by simpa using e1, by simpa using e0⟩

end Sys2Proof.Machine
end

