-- ==== Sys2Proof/Tests/Slice0.lean ====
section
/-! SUPPORT. The model's own tests: ill-formed terms refused, words of the encoding tables decoded, single steps from the
vectors of 95_test_vectors.md, and a witness for the hypotheses of every statement. -/

namespace Sys2Proof.Tests

open Sys2Proof Sys2Proof.Machine

/-! ### Well-formedness -/

/-- 45_system_cop.md R921: function 0x10 is RFE, no generic command. -/
theorem test_wf_cop0_generic : Instr.wf (.cop0Generic 0x10#6) = false ∧ Instr.wf (.cop0Generic 0x02#6) = true := by decide

/-- 30_encoding.md R324: rt 0 and 1 are BC0F and BC0T, no unnamed encoding. -/
theorem test_wf_cop0_rs08 :
    Instr.wf (.cop0Rs08Other 0#5) = false ∧ Instr.wf (.cop0Rs08Other 1#5) = false ∧
    Instr.wf (.cop0Rs08Other 2#5) = true := by
  decide

/-! ### Decoding

One word for each row of the opcode table, its fields put at the bit positions of 30_encoding.md R302: rs = 17, rt = 9,
rd = 26, sa = 21, imm16 = 0xA55A, target26 = 0x2ABCDE5, code20 = 0xA5F0C, and every ignored bit 1. -/

/-- 30_encoding.md R302, R321; the fields no shift uses are ones (R330). -/
theorem test_decode_shifts :
    decode 0x03E9D540#32 = .sll 26 9 0x15#5 ∧ decode 0x03E9D542#32 = .srl 26 9 0x15#5 ∧
    decode 0x03E9D543#32 = .sra 26 9 0x15#5 ∧ decode 0x0229D7C4#32 = .sllv 26 9 17 ∧
    decode 0x0229D7C6#32 = .srlv 26 9 17 ∧ decode 0x0229D7C7#32 = .srav 26 9 17 := by
  decide

/-- 30_encoding.md R321, register ALU. -/
theorem test_decode_alu :
    decode 0x0229D7E0#32 = .add 26 17 9 ∧ decode 0x0229D7E1#32 = .addu 26 17 9 ∧
    decode 0x0229D7E2#32 = .sub 26 17 9 ∧ decode 0x0229D7E3#32 = .subu 26 17 9 ∧
    decode 0x0229D7E4#32 = .and 26 17 9 ∧ decode 0x0229D7E5#32 = .or 26 17 9 ∧ decode 0x0229D7E6#32 = .xor 26 17 9 ∧
    decode 0x0229D7E7#32 = .nor 26 17 9 ∧ decode 0x0229D7EA#32 = .slt 26 17 9 ∧
    decode 0x0229D7EB#32 = .sltu 26 17 9 := by
  decide

/-- 30_encoding.md R320, immediate ALU. -/
theorem test_decode_immediate :
    decode 0x2229A55A#32 = .addi 9 17 0xA55A#16 ∧ decode 0x2629A55A#32 = .addiu 9 17 0xA55A#16 ∧
    decode 0x2A29A55A#32 = .slti 9 17 0xA55A#16 ∧ decode 0x2E29A55A#32 = .sltiu 9 17 0xA55A#16 ∧
    decode 0x3229A55A#32 = .andi 9 17 0xA55A#16 ∧ decode 0x3629A55A#32 = .ori 9 17 0xA55A#16 ∧
    decode 0x3A29A55A#32 = .xori 9 17 0xA55A#16 ∧ decode 0x3FE9A55A#32 = .lui 9 0xA55A#16 := by
  decide

/-- 30_encoding.md R321, multiply, divide, HI/LO moves. -/
theorem test_decode_muldiv :
    decode 0x0229FFD8#32 = .mult 17 9 ∧ decode 0x0229FFD9#32 = .multu 17 9 ∧ decode 0x0229FFDA#32 = .div 17 9 ∧
    decode 0x0229FFDB#32 = .divu 17 9 ∧ decode 0x03FFD7D0#32 = .mfhi 26 ∧ decode 0x03FFD7D2#32 = .mflo 26 ∧
    decode 0x023FFFD1#32 = .mthi 17 ∧ decode 0x023FFFD3#32 = .mtlo 17 := by
  decide

/-- 30_encoding.md R320, R323, the named branches and jumps. -/
theorem test_decode_branch :
    decode 0x1229A55A#32 = .beq 17 9 0xA55A#16 ∧ decode 0x1629A55A#32 = .bne 17 9 0xA55A#16 ∧
    decode 0x1A3FA55A#32 = .blez 17 0xA55A#16 ∧ decode 0x1E3FA55A#32 = .bgtz 17 0xA55A#16 ∧
    decode 0x0620A55A#32 = .bltz 17 0xA55A#16 ∧ decode 0x0621A55A#32 = .bgez 17 0xA55A#16 ∧
    decode 0x0630A55A#32 = .bltzal 17 0xA55A#16 ∧ decode 0x0631A55A#32 = .bgezal 17 0xA55A#16 ∧
    decode 0x0AABCDE5#32 = .j 0x2ABCDE5#26 ∧ decode 0x0EABCDE5#32 = .jal 0x2ABCDE5#26 ∧
    decode 0x023FFFC8#32 = .jr 17 ∧ decode 0x023FD7C9#32 = .jalr 26 17 := by
  decide

/-- 43_branch.md R718, the other BcondZ words. -/
theorem test_decode_bcondz :
    decode 0x0622A55A#32 = .bcondzRt02 17 0xA55A#16 ∧ decode 0x0623A55A#32 = .bcondzRt03 17 0xA55A#16 ∧
    decode 0x0624A55A#32 = .bcondzRt04 17 0xA55A#16 ∧ decode 0x0625A55A#32 = .bcondzRt05 17 0xA55A#16 ∧
    decode 0x0626A55A#32 = .bcondzRt06 17 0xA55A#16 ∧ decode 0x0627A55A#32 = .bcondzRt07 17 0xA55A#16 ∧
    decode 0x0628A55A#32 = .bcondzRt08 17 0xA55A#16 ∧ decode 0x0629A55A#32 = .bcondzRt09 17 0xA55A#16 ∧
    decode 0x062AA55A#32 = .bcondzRt0A 17 0xA55A#16 ∧ decode 0x062BA55A#32 = .bcondzRt0B 17 0xA55A#16 ∧
    decode 0x062CA55A#32 = .bcondzRt0C 17 0xA55A#16 ∧ decode 0x062DA55A#32 = .bcondzRt0D 17 0xA55A#16 ∧
    decode 0x062EA55A#32 = .bcondzRt0E 17 0xA55A#16 ∧ decode 0x062FA55A#32 = .bcondzRt0F 17 0xA55A#16 ∧
    decode 0x0632A55A#32 = .bcondzRt12 17 0xA55A#16 ∧ decode 0x0633A55A#32 = .bcondzRt13 17 0xA55A#16 ∧
    decode 0x0634A55A#32 = .bcondzRt14 17 0xA55A#16 ∧ decode 0x0635A55A#32 = .bcondzRt15 17 0xA55A#16 ∧
    decode 0x0636A55A#32 = .bcondzRt16 17 0xA55A#16 ∧ decode 0x0637A55A#32 = .bcondzRt17 17 0xA55A#16 ∧
    decode 0x0638A55A#32 = .bcondzRt18 17 0xA55A#16 ∧ decode 0x0639A55A#32 = .bcondzRt19 17 0xA55A#16 ∧
    decode 0x063AA55A#32 = .bcondzRt1A 17 0xA55A#16 ∧ decode 0x063BA55A#32 = .bcondzRt1B 17 0xA55A#16 ∧
    decode 0x063CA55A#32 = .bcondzRt1C 17 0xA55A#16 ∧ decode 0x063DA55A#32 = .bcondzRt1D 17 0xA55A#16 ∧
    decode 0x063EA55A#32 = .bcondzRt1E 17 0xA55A#16 ∧ decode 0x063FA55A#32 = .bcondzRt1F 17 0xA55A#16 := by
  decide

/-- 30_encoding.md R320, loads and stores. -/
theorem test_decode_memory :
    decode 0x8229A55A#32 = .lb 9 17 0xA55A#16 ∧ decode 0x9229A55A#32 = .lbu 9 17 0xA55A#16 ∧
    decode 0x8629A55A#32 = .lh 9 17 0xA55A#16 ∧ decode 0x9629A55A#32 = .lhu 9 17 0xA55A#16 ∧
    decode 0x8E29A55A#32 = .lw 9 17 0xA55A#16 ∧ decode 0x8A29A55A#32 = .lwl 9 17 0xA55A#16 ∧
    decode 0x9A29A55A#32 = .lwr 9 17 0xA55A#16 ∧ decode 0xA229A55A#32 = .sb 9 17 0xA55A#16 ∧
    decode 0xA629A55A#32 = .sh 9 17 0xA55A#16 ∧ decode 0xAE29A55A#32 = .sw 9 17 0xA55A#16 ∧
    decode 0xAA29A55A#32 = .swl 9 17 0xA55A#16 ∧ decode 0xBA29A55A#32 = .swr 9 17 0xA55A#16 ∧
    decode 0xC229A55A#32 = .lwc0 9 17 0xA55A#16 ∧ decode 0xE229A55A#32 = .swc0 9 17 0xA55A#16 := by
  decide

/-- 30_encoding.md R321, R324, system calls and the named COP0 encodings. -/
theorem test_decode_system :
    decode 0x0297C30C#32 = .syscall 0xA5F0C#20 ∧ decode 0x0297C30D#32 = .brk 0xA5F0C#20 ∧
    decode 0x4009D7FF#32 = .mfc0 9 26 ∧ decode 0x4089D7FF#32 = .mtc0 9 26 ∧ decode 0x4100A55A#32 = .bc0f 0xA55A#16 ∧
    decode 0x4101A55A#32 = .bc0t 0xA55A#16 ∧ decode 0x4049D7FF#32 = .cfc0 9 26 ∧ decode 0x40C9D7FF#32 = .ctc0 9 26 ∧
    decode 0x43FFFFD0#32 = .rfe ∧ decode 0x43FFFFED#32 = .cop0Generic 0x2D#6 := by
  decide

/-- 30_encoding.md R341. -/
theorem test_decode_unnamed_cop0 :
    decode 0x403FFFFF#32 = .cop0Rs01 ∧ decode 0x407FFFFF#32 = .cop0Rs03 ∧ decode 0x40BFFFFF#32 = .cop0Rs05 ∧
    decode 0x40FFFFFF#32 = .cop0Rs07 ∧ decode 0x413FFFFF#32 = .cop0Rs09 ∧ decode 0x415FFFFF#32 = .cop0Rs0A ∧
    decode 0x417FFFFF#32 = .cop0Rs0B ∧ decode 0x419FFFFF#32 = .cop0Rs0C ∧ decode 0x41BFFFFF#32 = .cop0Rs0D ∧
    decode 0x41DFFFFF#32 = .cop0Rs0E ∧ decode 0x41FFFFFF#32 = .cop0Rs0F ∧
    decode 0x4109FFFF#32 = .cop0Rs08Other 9#5 := by
  decide

/-- 30_encoding.md R320, COP1-COP3 with their loads and stores. -/
theorem test_decode_other_cop :
    decode 0x47FFFFFF#32 = .cop1 ∧ decode 0x4FFFFFFF#32 = .cop3 ∧ decode 0xC7FFFFFF#32 = .lwc1 ∧
    decode 0xCFFFFFFF#32 = .lwc3 ∧ decode 0xE7FFFFFF#32 = .swc1 ∧ decode 0xEFFFFFFF#32 = .swc3 ∧
    decode 0x4BFFFFFF#32 = .cop2 ∧ decode 0xCBFFFFFF#32 = .lwc2 ∧ decode 0xEBFFFFFF#32 = .swc2 := by
  decide

/-- 30_encoding.md R340, reserved primary opcodes. -/
theorem test_decode_reserved_op :
    decode 0x53FFFFFF#32 = .reservedOp14 ∧ decode 0x57FFFFFF#32 = .reservedOp15 ∧
    decode 0x5BFFFFFF#32 = .reservedOp16 ∧ decode 0x5FFFFFFF#32 = .reservedOp17 ∧
    decode 0x63FFFFFF#32 = .reservedOp18 ∧ decode 0x67FFFFFF#32 = .reservedOp19 ∧
    decode 0x6BFFFFFF#32 = .reservedOp1A ∧ decode 0x6FFFFFFF#32 = .reservedOp1B ∧
    decode 0x73FFFFFF#32 = .reservedOp1C ∧ decode 0x77FFFFFF#32 = .reservedOp1D ∧
    decode 0x7BFFFFFF#32 = .reservedOp1E ∧ decode 0x7FFFFFFF#32 = .reservedOp1F ∧
    decode 0x9FFFFFFF#32 = .reservedOp27 ∧ decode 0xB3FFFFFF#32 = .reservedOp2C ∧
    decode 0xB7FFFFFF#32 = .reservedOp2D ∧ decode 0xBFFFFFFF#32 = .reservedOp2F ∧
    decode 0xD3FFFFFF#32 = .reservedOp34 ∧ decode 0xD7FFFFFF#32 = .reservedOp35 ∧
    decode 0xDBFFFFFF#32 = .reservedOp36 ∧ decode 0xDFFFFFFF#32 = .reservedOp37 ∧
    decode 0xF3FFFFFF#32 = .reservedOp3C ∧ decode 0xF7FFFFFF#32 = .reservedOp3D ∧
    decode 0xFBFFFFFF#32 = .reservedOp3E ∧ decode 0xFFFFFFFF#32 = .reservedOp3F := by
  decide

/-- 30_encoding.md R340, reserved SPECIAL functions. -/
theorem test_decode_reserved_funct :
    decode 0x03FFFFC1#32 = .reservedFunct01 ∧ decode 0x03FFFFC5#32 = .reservedFunct05 ∧
    decode 0x03FFFFCA#32 = .reservedFunct0A ∧ decode 0x03FFFFCB#32 = .reservedFunct0B ∧
    decode 0x03FFFFCE#32 = .reservedFunct0E ∧ decode 0x03FFFFCF#32 = .reservedFunct0F ∧
    decode 0x03FFFFD4#32 = .reservedFunct14 ∧ decode 0x03FFFFD5#32 = .reservedFunct15 ∧
    decode 0x03FFFFD6#32 = .reservedFunct16 ∧ decode 0x03FFFFD7#32 = .reservedFunct17 ∧
    decode 0x03FFFFDC#32 = .reservedFunct1C ∧ decode 0x03FFFFDD#32 = .reservedFunct1D ∧
    decode 0x03FFFFDE#32 = .reservedFunct1E ∧ decode 0x03FFFFDF#32 = .reservedFunct1F ∧
    decode 0x03FFFFE8#32 = .reservedFunct28 ∧ decode 0x03FFFFE9#32 = .reservedFunct29 ∧
    decode 0x03FFFFEC#32 = .reservedFunct2C ∧ decode 0x03FFFFED#32 = .reservedFunct2D ∧
    decode 0x03FFFFEE#32 = .reservedFunct2E ∧ decode 0x03FFFFEF#32 = .reservedFunct2F ∧
    decode 0x03FFFFF0#32 = .reservedFunct30 ∧ decode 0x03FFFFF1#32 = .reservedFunct31 ∧
    decode 0x03FFFFF2#32 = .reservedFunct32 ∧ decode 0x03FFFFF3#32 = .reservedFunct33 ∧
    decode 0x03FFFFF4#32 = .reservedFunct34 ∧ decode 0x03FFFFF5#32 = .reservedFunct35 ∧
    decode 0x03FFFFF6#32 = .reservedFunct36 ∧ decode 0x03FFFFF7#32 = .reservedFunct37 ∧
    decode 0x03FFFFF8#32 = .reservedFunct38 ∧ decode 0x03FFFFF9#32 = .reservedFunct39 ∧
    decode 0x03FFFFFA#32 = .reservedFunct3A ∧ decode 0x03FFFFFB#32 = .reservedFunct3B ∧
    decode 0x03FFFFFC#32 = .reservedFunct3C ∧ decode 0x03FFFFFD#32 = .reservedFunct3D ∧
    decode 0x03FFFFFE#32 = .reservedFunct3E ∧ decode 0x03FFFFFF#32 = .reservedFunct3F := by
  decide

/-- Vectors V30-01 to V30-34 that are no row's word above. -/
theorem test_decode_vectors :
    decode 0x00000000#32 = .sll 0 0 0#5 ∧ decode 0x03E00008#32 = .jr 31 ∧ decode 0x03E0F808#32 = .jr 31 ∧
    decode 0x01E04900#32 = .sll 9 0 4#5 ∧ decode 0x03FFFFCD#32 = .brk 0xFFFFF#20 ∧ decode 0x18000000#32 = .blez 0 0#16 ∧
    decode 0x43FFFFD0#32 = .rfe ∧ decode 0x42000002#32 = .cop0Generic 2#6 ∧ decode 0x41020000#32 = .cop0Rs08Other 2#5 ∧
    decode 0x41000000#32 = .bc0f 0#16 ∧ decode 0x40200000#32 = .cop0Rs01 ∧ decode 0xC8000000#32 = .lwc2 ∧
    decode 0xE4000000#32 = .swc1 := by
  decide

/-- The bytes of a word stand in little-endian order (20_memory.md R201), and a short or long table word is refused. -/
theorem test_decode_table_word :
    decodeTableWord 32 0x21080001 = some (.addi 8 8 1#16) ∧ decodeBytes [0x01#8, 0x00#8, 0x08#8, 0x21#8, 0xFF#8] =
      .ok (.addi 8 8 1#16, [0xFF#8]) := by
  exact ⟨by decide, rfl⟩

/-! ### Single steps

The start state of the vectors' conventions, with what a vector changes. -/

/-- pc = 0x8001_0000, SR = 0, everything else as the conventions say. -/
def start : State := { State.reset with pc := 0x80010000#32, cop0 := { State.reset.cop0 with sr := 0#32 } }

end Sys2Proof.Tests

namespace Sys2Proof.Machine

/-- The same with another fetch pointer. -/
def State.at (s : State) (pc : Word) : State := { s with pc := pc }

/-- The same with another SR. -/
def State.withSr (s : State) (v : Word) : State := s.setCop0 { s.cop0 with sr := v }

/-- The same with another CAUSE. -/
def State.withCause (s : State) (v : Word) : State := s.setCop0 { s.cop0 with cause := v }

/-- The same with these RAM cells. -/
def State.withRam (s : State) (m : List Host.Cell) : State := { s with mem := { s.mem with ram := m } }

/-- The little-endian word that stands at an address, if the core stores its bytes. -/
def State.wordAt (s : State) (a : Word) : Option Word :=
  match s.byteAt a, s.byteAt (a + 1#32), s.byteAt (a + 2#32), s.byteAt (a + 3#32) with
  | some b0, some b1, some b2, some b3 => some (b3 ++ b2 ++ b1 ++ b0)
  | _, _, _, _ => none

end Sys2Proof.Machine

namespace Sys2Proof.Tests

open Sys2Proof Sys2Proof.Machine

/-- One step with a word at the fetch pointer, and what is seen of the next state. -/
def run {α : Type} (s : State) (w : Nat) (f : State → α) : Option α :=
  match step (s.withFetchWord 32 w) with
  | .next t => some (f t)
  | .fault _ => none
  | .refused _ => none

/-- How such a step stops, if it does. -/
def stop (s : State) (w : Nat) : Option RunStatus :=
  match step (s.withFetchWord 32 w) with
  | .next _ => none
  | .fault r => some (.faulted r)
  | .refused r => some (.refused r)

/-- Vectors V41-01, V41-02, V41-03. -/
theorem test_sll :
    run (start.writeGpr 8 0x87654321#32) 0x00084900 (fun t => (t.x 9, t.pc)) = some (0x76543210#32, 0x80010004#32) ∧
    run (start.writeGpr 8 0x1#32) 0x00000000 (fun t => t.pc) = some 0x80010004#32 ∧
    run (start.writeGpr 8 0x3#32) 0x00084FC0 (fun t => (t.x 9, t.pc)) = some (0x80000000#32, 0x80010004#32) := by
  decide

/-- Vectors V41-04, V41-05. -/
theorem test_srl :
    run (start.writeGpr 8 0x80000000#32) 0x00084FC2 (fun t => (t.x 9, t.pc)) = some (0x1#32, 0x80010004#32) ∧
    run (start.writeGpr 8 0x80000001#32) 0x00084802 (fun t => (t.x 9, t.pc)) = some (0x80000001#32, 0x80010004#32) := by
  decide

/-- Vectors V41-06, V41-07. -/
theorem test_sra :
    run (start.writeGpr 8 0x80000000#32) 0x00084903 (fun t => (t.x 9, t.pc)) = some (0xF8000000#32, 0x80010004#32) ∧
    run (start.writeGpr 8 0x40000000#32) 0x00084FC3 (fun t => (t.x 9, t.pc)) = some (0x0#32, 0x80010004#32) := by
  decide

/-- Vector V41-08. -/
theorem test_sllv :
    run ((start.writeGpr 8 0x1#32).writeGpr 10 0x21#32) 0x01484804
        (fun t => (t.x 9, t.pc)) = some (0x2#32, 0x80010004#32) := by
  decide

/-- Vector V41-09. -/
theorem test_srlv :
    run ((start.writeGpr 8 0xF0000000#32).writeGpr 10 0x24#32) 0x01484806
        (fun t => (t.x 9, t.pc)) = some (0xF000000#32, 0x80010004#32) := by
  decide

/-- Vector V41-10. -/
theorem test_srav :
    run ((start.writeGpr 8 0xF0000000#32).writeGpr 10 0x24#32) 0x01484807
        (fun t => (t.x 9, t.pc)) = some (0xFF000000#32, 0x80010004#32) := by
  decide

/-- Vectors V41-11, V41-12, V41-13, V41-14. -/
theorem test_add :
    run ((start.writeGpr 8 0x2#32).writeGpr 10 0x3#32) 0x010A4820
        (fun t => (t.x 9, t.pc)) = some (0x5#32, 0x80010004#32) ∧
    run (((start.writeGpr 8 0x7FFFFFFF#32).writeGpr 9 0x1234#32).writeGpr 10 0x1#32) 0x010A4820
        (fun t => (t.x 9, t.pc, t.cop0.sr, t.cop0.epc)) = some (0x1234#32, 0x80000080#32, 0x0#32, 0x80010000#32) ∧
    run ((start.writeGpr 8 0x80000000#32).writeGpr 10 0xFFFFFFFF#32) 0x010A4820
        (fun t => (t.x 9, t.pc, t.cop0.sr, t.cop0.epc)) = some (0x0#32, 0x80000080#32, 0x0#32, 0x80010000#32) ∧
    run ((start.writeGpr 8 0x7FFFFFFF#32).writeGpr 10 0xFFFFFFFF#32) 0x010A4820
        (fun t => (t.x 9, t.pc)) = some (0x7FFFFFFE#32, 0x80010004#32) := by
  decide

/-- Vector V41-15. -/
theorem test_addu :
    run ((start.writeGpr 8 0x7FFFFFFF#32).writeGpr 10 0x1#32) 0x010A4821
        (fun t => (t.x 9, t.pc)) = some (0x80000000#32, 0x80010004#32) := by
  decide

/-- Vectors V41-16, V41-17, V41-18. -/
theorem test_sub :
    run ((start.writeGpr 8 0x5#32).writeGpr 10 0x7#32) 0x010A4822
        (fun t => (t.x 9, t.pc)) = some (0xFFFFFFFE#32, 0x80010004#32) ∧
    run ((start.writeGpr 8 0x80000000#32).writeGpr 10 0x1#32) 0x010A4822
        (fun t => (t.x 9, t.pc, t.cop0.sr, t.cop0.epc)) = some (0x0#32, 0x80000080#32, 0x0#32, 0x80010000#32) ∧
    run (start.writeGpr 10 0x80000000#32) 0x000A4822
        (fun t => (t.x 9, t.pc, t.cop0.sr, t.cop0.epc)) = some (0x0#32, 0x80000080#32, 0x0#32, 0x80010000#32) := by
  decide

/-- Vector V41-19. -/
theorem test_subu :
    run (start.writeGpr 10 0x80000000#32) 0x000A4823 (fun t => (t.x 9, t.pc)) = some (0x80000000#32, 0x80010004#32) := by
  decide

/-- Vector V41-20. -/
theorem test_and :
    run ((start.writeGpr 8 0xFF00FF00#32).writeGpr 10 0xFF00FF0#32) 0x010A4824
        (fun t => (t.x 9, t.pc)) = some (0xF000F00#32, 0x80010004#32) := by
  decide

/-- Vector V41-21. -/
theorem test_or :
    run ((start.writeGpr 8 0xFF00FF00#32).writeGpr 10 0xFF00FF0#32) 0x010A4825
        (fun t => (t.x 9, t.pc)) = some (0xFFF0FFF0#32, 0x80010004#32) := by
  decide

/-- Vector V41-22. -/
theorem test_xor :
    run ((start.writeGpr 8 0xFF00FF00#32).writeGpr 10 0xFF00FF0#32) 0x010A4826
        (fun t => (t.x 9, t.pc)) = some (0xF0F0F0F0#32, 0x80010004#32) := by
  decide

/-- Vector V41-23. -/
theorem test_nor :
    run ((start.writeGpr 8 0xFF00FF00#32).writeGpr 10 0xFF00FF0#32) 0x010A4827
        (fun t => (t.x 9, t.pc)) = some (0xF000F#32, 0x80010004#32) := by
  decide

/-- Vectors V41-24, V41-25. -/
theorem test_slt :
    run ((start.writeGpr 8 0x80000000#32).writeGpr 10 0x7FFFFFFF#32) 0x010A482A
        (fun t => (t.x 9, t.pc)) = some (0x1#32, 0x80010004#32) ∧
    run (((start.writeGpr 8 0x5#32).writeGpr 9 0x7#32).writeGpr 10 0x5#32) 0x010A482A
        (fun t => (t.x 9, t.pc)) = some (0x0#32, 0x80010004#32) := by
  decide

/-- Vectors V41-26, V41-27. -/
theorem test_sltu :
    run (((start.writeGpr 8 0x80000000#32).writeGpr 9 0x7#32).writeGpr 10 0x7FFFFFFF#32) 0x010A482B
        (fun t => (t.x 9, t.pc)) = some (0x0#32, 0x80010004#32) ∧
    run (start.writeGpr 10 0x3#32) 0x000A482B (fun t => (t.x 9, t.pc)) = some (0x1#32, 0x80010004#32) := by
  decide

/-- Vectors V41-28, V41-30, V41-31. -/
theorem test_addi :
    run (start.writeGpr 8 0x7FFFFFFF#32) 0x21080001
        (fun t => (t.x 8, t.pc, t.cop0.sr, t.cop0.epc)) =
        some (0x7FFFFFFF#32, 0x80000080#32, 0x0#32, 0x80010000#32) ∧
    run start 0x2109FFFF (fun t => (t.x 9, t.pc)) = some (0xFFFFFFFF#32, 0x80010004#32) ∧
    run (start.writeGpr 8 0x80000000#32) 0x2109FFFF
        (fun t => (t.x 9, t.pc, t.cop0.sr, t.cop0.epc)) = some (0x0#32, 0x80000080#32, 0x0#32, 0x80010000#32) := by
  decide

/-- Vector V41-29. -/
theorem test_addiu :
    run (start.writeGpr 8 0x7FFFFFFF#32) 0x25080001 (fun t => (t.x 8, t.pc)) = some (0x80000000#32, 0x80010004#32) := by
  decide

/-- Vector V41-32. -/
theorem test_slti :
    run (start.writeGpr 8 0xFFFFFFFE#32) 0x2909FFFF (fun t => (t.x 9, t.pc)) = some (0x1#32, 0x80010004#32) := by
  decide

/-- Vector V41-33. -/
theorem test_sltiu :
    run (start.writeGpr 8 0x5#32) 0x2D09FFFF (fun t => (t.x 9, t.pc)) = some (0x1#32, 0x80010004#32) := by
  decide

/-- Vector V41-34. -/
theorem test_andi :
    run (start.writeGpr 8 0xFFFFFFFF#32) 0x31098000 (fun t => (t.x 9, t.pc)) = some (0x8000#32, 0x80010004#32) := by
  decide

/-- Vector V41-35. -/
theorem test_ori :
    run (start.writeGpr 8 0x12340000#32) 0x35098001 (fun t => (t.x 9, t.pc)) = some (0x12348001#32, 0x80010004#32) := by
  decide

/-- Vector V41-36. -/
theorem test_xori :
    run (start.writeGpr 8 0xFFFF0F0F#32) 0x3909FFFF (fun t => (t.x 9, t.pc)) = some (0xFFFFF0F0#32, 0x80010004#32) := by
  decide

/-- Vector V41-37. -/
theorem test_lui :
    run (start.writeGpr 9 0x1234#32) 0x3C098000 (fun t => (t.x 9, t.pc)) = some (0x80000000#32, 0x80010004#32) := by
  decide

/-- Vectors V41-38, V41-39. -/
theorem test_register_zero :
    run start 0x24000005 (fun t => (t.x 0, t.pc)) = some (0x0#32, 0x80010004#32) ∧
    run ((start.writeGpr 8 0x7FFFFFFF#32).writeGpr 10 0x1#32) 0x010A0020
        (fun t => (t.pc, t.cop0.sr, t.cop0.epc)) = some (0x80000080#32, 0x0#32, 0x80010000#32) := by
  decide

/-- Vectors V42-01, V42-02, V42-03. -/
theorem test_mult :
    run ((start.writeGpr 8 0xFFFFFFFF#32).writeGpr 10 0xFFFFFFFF#32) 0x010A0018
        (fun t => (t.hi, t.lo, t.pc)) = some (0x0#32, 0x1#32, 0x80010004#32) ∧
    run ((start.writeGpr 8 0x80000000#32).writeGpr 10 0x80000000#32) 0x010A0018
        (fun t => (t.hi, t.lo, t.pc)) = some (0x40000000#32, 0x0#32, 0x80010004#32) ∧
    run ((start.writeGpr 8 0xFFFFFFFF#32).writeGpr 10 0x1#32) 0x010A0018
        (fun t => (t.hi, t.lo, t.pc)) = some (0xFFFFFFFF#32, 0xFFFFFFFF#32, 0x80010004#32) := by
  decide

/-- Vector V42-04. -/
theorem test_multu :
    run ((start.writeGpr 8 0xFFFFFFFF#32).writeGpr 10 0xFFFFFFFF#32) 0x010A0019
        (fun t => (t.hi, t.lo, t.pc)) = some (0xFFFFFFFE#32, 0x1#32, 0x80010004#32) := by
  decide

/-- Vectors V42-05, V42-07, V42-09, V42-11, V42-13, V42-15, V42-17, V42-19, V42-21. -/
theorem test_div :
    run ((start.writeGpr 8 0x7#32).writeGpr 10 0x2#32) 0x010A001A
        (fun t => (t.hi, t.lo, t.pc)) = some (0x1#32, 0x3#32, 0x80010004#32) ∧
    run ((start.writeGpr 8 0xFFFFFFF9#32).writeGpr 10 0x2#32) 0x010A001A
        (fun t => (t.hi, t.lo, t.pc)) = some (0xFFFFFFFF#32, 0xFFFFFFFD#32, 0x80010004#32) ∧
    run ((start.writeGpr 8 0x7#32).writeGpr 10 0xFFFFFFFE#32) 0x010A001A
        (fun t => (t.hi, t.lo, t.pc)) = some (0x1#32, 0xFFFFFFFD#32, 0x80010004#32) ∧
    run ((start.writeGpr 8 0xFFFFFFF9#32).writeGpr 10 0xFFFFFFFE#32) 0x010A001A
        (fun t => (t.hi, t.lo, t.pc)) = some (0xFFFFFFFF#32, 0x3#32, 0x80010004#32) ∧
    run (start.writeGpr 8 0x5#32) 0x010A001A
        (fun t => (t.hi, t.lo, t.pc)) = some (0x5#32, 0xFFFFFFFF#32, 0x80010004#32) ∧
    run (start.writeGpr 8 0xFFFFFFFB#32) 0x010A001A
        (fun t => (t.hi, t.lo, t.pc)) = some (0xFFFFFFFB#32, 0x1#32, 0x80010004#32) ∧
    run start 0x010A001A (fun t => (t.hi, t.lo, t.pc)) = some (0x0#32, 0xFFFFFFFF#32, 0x80010004#32) ∧
    run ((start.writeGpr 8 0x80000000#32).writeGpr 10 0xFFFFFFFF#32) 0x010A001A
        (fun t => (t.hi, t.lo, t.pc)) = some (0x0#32, 0x80000000#32, 0x80010004#32) ∧
    run ((start.writeGpr 8 0x80000000#32).writeGpr 10 0x1#32) 0x010A001A
        (fun t => (t.hi, t.lo, t.pc)) = some (0x0#32, 0x80000000#32, 0x80010004#32) := by
  decide

/-- Vectors V42-06, V42-08, V42-10, V42-12, V42-14, V42-16, V42-20. -/
theorem test_divu :
    run ((start.writeGpr 8 0x7#32).writeGpr 10 0x2#32) 0x010A001B
        (fun t => (t.hi, t.lo, t.pc)) = some (0x1#32, 0x3#32, 0x80010004#32) ∧
    run ((start.writeGpr 8 0xFFFFFFF9#32).writeGpr 10 0x2#32) 0x010A001B
        (fun t => (t.hi, t.lo, t.pc)) = some (0x1#32, 0x7FFFFFFC#32, 0x80010004#32) ∧
    run ((start.writeGpr 8 0x7#32).writeGpr 10 0xFFFFFFFE#32) 0x010A001B
        (fun t => (t.hi, t.lo, t.pc)) = some (0x7#32, 0x0#32, 0x80010004#32) ∧
    run ((start.writeGpr 8 0xFFFFFFF9#32).writeGpr 10 0xFFFFFFFE#32) 0x010A001B
        (fun t => (t.hi, t.lo, t.pc)) = some (0xFFFFFFF9#32, 0x0#32, 0x80010004#32) ∧
    run (start.writeGpr 8 0x5#32) 0x010A001B
        (fun t => (t.hi, t.lo, t.pc)) = some (0x5#32, 0xFFFFFFFF#32, 0x80010004#32) ∧
    run (start.writeGpr 8 0xFFFFFFFB#32) 0x010A001B
        (fun t => (t.hi, t.lo, t.pc)) = some (0xFFFFFFFB#32, 0xFFFFFFFF#32, 0x80010004#32) ∧
    run ((start.writeGpr 8 0x80000000#32).writeGpr 10 0xFFFFFFFF#32) 0x010A001B
        (fun t => (t.hi, t.lo, t.pc)) = some (0x80000000#32, 0x0#32, 0x80010004#32) := by
  decide

/-- Vector V42-23. -/
theorem test_mfhi :
    run (start.setHiLo 0x5#32 0#32) 0x00004810 (fun t => (t.x 9, t.pc, t.hiloAge)) = some (0x5#32, 0x80010004#32, 0) := by
  decide

/-- Vector V42-24. -/
theorem test_mflo :
    run (start.setHiLo 0#32 0xFFFFFFFB#32) 0x00004812
        (fun t => (t.x 9, t.pc, t.hiloAge)) = some (0xFFFFFFFB#32, 0x80010004#32, 0) := by
  decide

/-- Vector V42-25. -/
theorem test_mthi :
    run (start.writeGpr 8 0xCAFE#32) 0x01000011 (fun t => (t.hi, t.pc)) = some (0xCAFE#32, 0x80010004#32) := by
  decide

/-- Vector V42-26. -/
theorem test_mtlo :
    run (start.writeGpr 8 0xBEEF#32) 0x01000013 (fun t => (t.lo, t.pc)) = some (0xBEEF#32, 0x80010004#32) := by
  decide

/-- Vectors V42-27 (second step), V42-28 (third step), V42-29 (last step) and V42-30 (second step). -/
theorem test_hilo_hazard :
    stop { (start.writeGpr 8 2#32) with hiloAge := 0 } 0x010A0018 = some (.faulted .hiloHazard) ∧
    stop { (start.writeGpr 8 2#32) with hiloAge := 1 } 0x01000013 = some (.faulted .hiloHazard) ∧
    run ((start.writeGpr 8 2#32).writeGpr 10 3#32) 0x010A0018 (fun t => (t.hi, t.lo)) = some (0#32, 6#32) ∧
    run { ((start.writeGpr 8 2#32).writeGpr 10 3#32) with
          hiloAge := 0, params := { Params.default with hiloHazard := .ignore } } 0x010A0018
        (fun t => (t.hi, t.lo, t.hiloAge)) = some (0#32, 6#32, 1) := by
  decide

/-- Vectors V43-01, V43-02. -/
theorem test_beq :
    run ((start.writeGpr 8 0x4#32).writeGpr 10 0x4#32) 0x110A0003
        (fun t => (t.pc, t.bd, t.slot)) = some (0x80010004#32, ⟨true, 0x80010010#32⟩, true) ∧
    run ((start.writeGpr 8 0x4#32).writeGpr 10 0x5#32) 0x110A0003
        (fun t => (t.pc, t.bd.pending, t.slot)) = some (0x80010004#32, false, true) := by
  decide

/-- Vector V43-04. -/
theorem test_bne :
    run ((start.writeGpr 8 0x1#32).writeGpr 10 0x2#32) 0x150AFFFF
        (fun t => (t.pc, t.bd, t.slot)) = some (0x80010004#32, ⟨true, 0x80010000#32⟩, true) := by
  decide

/-- Vectors V43-05, V43-06. -/
theorem test_blez :
    run (start.writeGpr 8 0x80000000#32) 0x19000002
        (fun t => (t.pc, t.bd, t.slot)) = some (0x80010004#32, ⟨true, 0x8001000C#32⟩, true) ∧
    run (start.writeGpr 8 0x1#32) 0x19000002
        (fun t => (t.pc, t.bd.pending, t.slot)) = some (0x80010004#32, false, true) := by
  decide

/-- Vectors V43-07, V43-08. -/
theorem test_bgtz :
    run (start.writeGpr 8 0x1#32) 0x1D000002
        (fun t => (t.pc, t.bd, t.slot)) = some (0x80010004#32, ⟨true, 0x8001000C#32⟩, true) ∧
    run (start.writeGpr 8 0x80000000#32) 0x1D000002
        (fun t => (t.pc, t.bd.pending, t.slot)) = some (0x80010004#32, false, true) := by
  decide

/-- Vector V43-09. -/
theorem test_bltz :
    run (start.writeGpr 8 0xFFFFFFFF#32) 0x05000002
        (fun t => (t.pc, t.bd, t.slot)) = some (0x80010004#32, ⟨true, 0x8001000C#32⟩, true) := by
  decide

/-- Vector V43-10. -/
theorem test_bgez :
    run start 0x05010002 (fun t => (t.pc, t.bd, t.slot)) = some (0x80010004#32, ⟨true, 0x8001000C#32⟩, true) := by
  decide

/-- Vectors V43-11, V43-12. -/
theorem test_bltzal :
    run (start.writeGpr 8 0x1#32) 0x05100002
        (fun t => (t.x 31, t.pc, t.bd.pending, t.slot)) = some (0x80010008#32, 0x80010004#32, false, true) ∧
    run (start.writeGpr 8 0xFFFFFFFF#32) 0x05100002
        (fun t => (t.x 31, t.pc, t.bd, t.slot)) =
        some (0x80010008#32, 0x80010004#32, ⟨true, 0x8001000C#32⟩, true) := by
  decide

/-- Vectors V43-13, V43-14. -/
theorem test_bgezal :
    run start 0x04110002
        (fun t => (t.x 31, t.pc, t.bd, t.slot)) =
        some (0x80010008#32, 0x80010004#32, ⟨true, 0x8001000C#32⟩, true) ∧
    run (start.writeGpr 31 0xFFFFFFFF#32) 0x07F10002
        (fun t => (t.x 31, t.pc, t.bd.pending, t.slot)) = some (0x80010008#32, 0x80010004#32, false, true) := by
  decide

/-- Vectors V43-15, V43-16. -/
theorem test_bcondz :
    run (start.writeGpr 8 0xFFFFFFFF#32) 0x05020002
        (fun t => (t.pc, t.bd, t.slot)) = some (0x80010004#32, ⟨true, 0x8001000C#32⟩, true) ∧
    run start 0x05130002 (fun t => (t.pc, t.bd, t.slot)) = some (0x80010004#32, ⟨true, 0x8001000C#32⟩, true) := by
  decide

/-- Vector V43-17. -/
theorem test_j :
    run start 0x08040000 (fun t => (t.pc, t.bd, t.slot)) = some (0x80010004#32, ⟨true, 0x80100000#32⟩, true) := by
  decide

/-- Vector V43-19. -/
theorem test_jal :
    run start 0x0C040000
        (fun t => (t.x 31, t.pc, t.bd, t.slot)) =
        some (0x80010008#32, 0x80010004#32, ⟨true, 0x80100000#32⟩, true) := by
  decide

/-- Vector V43-20. -/
theorem test_jr :
    run (start.writeGpr 31 0x80010040#32) 0x03E00008
        (fun t => (t.pc, t.bd, t.slot)) = some (0x80010004#32, ⟨true, 0x80010040#32⟩, true) := by
  decide

/-- Vectors V43-21, V43-22. -/
theorem test_jalr :
    run (start.writeGpr 8 0x80020000#32) 0x01004809
        (fun t => (t.x 9, t.pc, t.bd, t.slot)) =
        some (0x80010008#32, 0x80010004#32, ⟨true, 0x80020000#32⟩, true) ∧
    run (start.writeGpr 8 0x80020000#32) 0x01004009
        (fun t => (t.x 8, t.pc, t.bd, t.slot)) =
        some (0x80010008#32, 0x80010004#32, ⟨true, 0x80020000#32⟩, true) := by
  decide

/-- Vector V43-03 (second step): the slot ends at the target. -/
theorem test_branch_commit :
    run { (start.at 0x80010004#32) with bd := ⟨true, 0x80010010#32⟩, slot := true } 0x00000000
        (fun t => (t.pc, t.bd.pending, t.slot)) = some (0x80010010#32, false, false) := by
  decide

/-- Vectors V43-24 and V43-25 (second step): a branch or jump in a slot is refused, the branch before it taken or not. -/
theorem test_branch_in_slot :
    stop { (start.at 0x80010004#32) with bd := ⟨true, 0x8001000C#32⟩, slot := true } 0x08040000 =
      some (.refused .branchInDelaySlot) ∧
    stop { (start.at 0x80010004#32) with slot := true } 0x08040000 = some (.refused .branchInDelaySlot) := by
  decide

/-- Vector V43-23 (last step): the fetch at a misaligned target. -/
theorem test_misaligned_fetch :
    run (start.at 0x80010102#32) 0x00000000 (fun t => (t.pc, t.cop0.epc, t.cop0.badVaddr)) =
      some (0x80000080#32, 0x80010102#32, 0x80010102#32) := by
  decide

/-- Vector V44-01. -/
theorem test_lb :
    run ((start.writeGpr 8 0x80001000#32).withRam [(0x1003, 0x80#8)]) 0x81090003
        (fun t => (t.x 9, t.pc, t.ld)) = some (0x0#32, 0x80010004#32, ⟨true, 9, 0xFFFFFF80#32⟩) := by
  decide

/-- Vector V44-02. -/
theorem test_lbu :
    run ((start.writeGpr 8 0x80001000#32).withRam [(0x1003, 0x80#8)]) 0x91090003
        (fun t => (t.x 9, t.pc, t.ld)) = some (0x0#32, 0x80010004#32, ⟨true, 9, 0x80#32⟩) := by
  decide

/-- Vectors V44-03, V44-06. -/
theorem test_lh :
    run ((start.writeGpr 8 0x80001000#32).withRam [(0x1003, 0x80#8)]) 0x85090002
        (fun t => (t.x 9, t.pc, t.ld)) = some (0x0#32, 0x80010004#32, ⟨true, 9, 0xFFFF8000#32⟩) ∧
    run (((start.writeGpr 8 0x80001000#32).writeGpr 9 0x77#32).withRam [(0x1000, 0x11#8), (0x1001, 0x22#8), (0x1002, 0x33#8), (0x1003, 0x44#8), (0x1004, 0x55#8), (0x1005, 0x66#8), (0x1006, 0x77#8), (0x1007, 0x88#8)]) 0x85090001
        (fun t => (t.x 9, t.pc, t.cop0.sr, t.cop0.epc, t.cop0.badVaddr)) =
        some (0x77#32, 0x80000080#32, 0x0#32, 0x80010000#32, 0x80001001#32) := by
  decide

/-- Vectors V44-04, V44-07. -/
theorem test_lhu :
    run ((start.writeGpr 8 0x80001000#32).withRam [(0x1003, 0x80#8)]) 0x95090002
        (fun t => (t.x 9, t.pc, t.ld)) = some (0x0#32, 0x80010004#32, ⟨true, 9, 0x8000#32⟩) ∧
    run ((start.writeGpr 8 0x80001000#32).withRam [(0x1000, 0x11#8), (0x1001, 0x22#8), (0x1002, 0x33#8), (0x1003, 0x44#8), (0x1004, 0x55#8), (0x1005, 0x66#8), (0x1006, 0x77#8), (0x1007, 0x88#8)]) 0x95090003
        (fun t => (t.x 9, t.pc, t.cop0.sr, t.cop0.epc, t.cop0.badVaddr)) =
        some (0x0#32, 0x80000080#32, 0x0#32, 0x80010000#32, 0x80001003#32) := by
  decide

/-- Vectors V44-05, V44-08. -/
theorem test_lw :
    run ((start.writeGpr 8 0x80001000#32).withRam [(0x1000, 0x11#8), (0x1001, 0x22#8), (0x1002, 0x33#8), (0x1003, 0x44#8), (0x1004, 0x55#8), (0x1005, 0x66#8), (0x1006, 0x77#8), (0x1007, 0x88#8)]) 0x8D090000
        (fun t => (t.x 9, t.pc, t.ld)) = some (0x0#32, 0x80010004#32, ⟨true, 9, 0x44332211#32⟩) ∧
    run ((start.writeGpr 8 0x80001000#32).withRam [(0x1000, 0x11#8), (0x1001, 0x22#8), (0x1002, 0x33#8), (0x1003, 0x44#8), (0x1004, 0x55#8), (0x1005, 0x66#8), (0x1006, 0x77#8), (0x1007, 0x88#8)]) 0x8D090002
        (fun t => (t.x 9, t.pc, t.cop0.sr, t.cop0.epc, t.cop0.badVaddr)) =
        some (0x0#32, 0x80000080#32, 0x0#32, 0x80010000#32, 0x80001002#32) := by
  decide

/-- Vectors V44-09, V44-10. -/
theorem test_sh_sw_misaligned :
    run ((start.writeGpr 8 0x80001000#32).writeGpr 9 0x1234#32) 0xA5090001
        (fun t => (t.pc, t.cop0.sr, t.cop0.epc, t.cop0.badVaddr)) =
        some (0x80000080#32, 0x0#32, 0x80010000#32, 0x80001001#32) ∧
    run ((start.writeGpr 8 0x80001000#32).writeGpr 9 0x1234#32) 0xAD090002
        (fun t => (t.pc, t.cop0.sr, t.cop0.epc, t.cop0.badVaddr)) =
        some (0x80000080#32, 0x0#32, 0x80010000#32, 0x80001002#32) := by
  decide

/-- Vector V44-11. -/
theorem test_sb :
    run ((start.writeGpr 8 0x80001000#32).writeGpr 9 0x12345678#32) 0xA1090001
        (fun t => (t.pc, t.wordAt 0x80001000#32)) = some (0x80010004#32, some 0x7800#32) := by
  decide

/-- Vector V44-12. -/
theorem test_sh :
    run ((start.writeGpr 8 0x80001000#32).writeGpr 9 0x12345678#32) 0xA5090002
        (fun t => (t.pc, t.wordAt 0x80001000#32)) = some (0x80010004#32, some 0x56780000#32) := by
  decide

/-- Vectors V44-13, V44-37, V44-36. -/
theorem test_sw :
    run ((start.writeGpr 8 0x80001000#32).writeGpr 9 0x12345678#32) 0xAD090004
        (fun t => (t.pc, t.wordAt 0x80001004#32)) = some (0x80010004#32, some 0x12345678#32) ∧
    run (((start.withSr 0x10000#32).writeGpr 8 0x1F800010#32).writeGpr 9 0x12345678#32) 0xAD090000
        (fun t => (t.pc, t.wordAt 0x1F800010#32)) = some (0x80010004#32, some 0x12345678#32) ∧
    run (((start.withSr 0x10000#32).writeGpr 8 0x80001000#32).writeGpr 9 0x12345678#32) 0xAD090000
        (fun t => (t.pc, t.wordAt 0x80001000#32)) = some (0x80010004#32, some 0x0#32) := by
  decide

/-- Vectors V44-14, V44-15, V44-16, V44-17. -/
theorem test_lwl :
    run (((start.writeGpr 8 0x80001000#32).writeGpr 9 0xAAAAAAAA#32).withRam [(0x1000, 0x11#8), (0x1001, 0x22#8), (0x1002, 0x33#8), (0x1003, 0x44#8), (0x1004, 0x55#8), (0x1005, 0x66#8), (0x1006, 0x77#8), (0x1007, 0x88#8)]) 0x89090000
        (fun t => (t.x 9, t.pc, t.ld)) = some (0xAAAAAAAA#32, 0x80010004#32, ⟨true, 9, 0x11AAAAAA#32⟩) ∧
    run (((start.writeGpr 8 0x80001000#32).writeGpr 9 0xAAAAAAAA#32).withRam [(0x1000, 0x11#8), (0x1001, 0x22#8), (0x1002, 0x33#8), (0x1003, 0x44#8), (0x1004, 0x55#8), (0x1005, 0x66#8), (0x1006, 0x77#8), (0x1007, 0x88#8)]) 0x89090001
        (fun t => (t.x 9, t.pc, t.ld)) = some (0xAAAAAAAA#32, 0x80010004#32, ⟨true, 9, 0x2211AAAA#32⟩) ∧
    run (((start.writeGpr 8 0x80001000#32).writeGpr 9 0xAAAAAAAA#32).withRam [(0x1000, 0x11#8), (0x1001, 0x22#8), (0x1002, 0x33#8), (0x1003, 0x44#8), (0x1004, 0x55#8), (0x1005, 0x66#8), (0x1006, 0x77#8), (0x1007, 0x88#8)]) 0x89090002
        (fun t => (t.x 9, t.pc, t.ld)) = some (0xAAAAAAAA#32, 0x80010004#32, ⟨true, 9, 0x332211AA#32⟩) ∧
    run (((start.writeGpr 8 0x80001000#32).writeGpr 9 0xAAAAAAAA#32).withRam [(0x1000, 0x11#8), (0x1001, 0x22#8), (0x1002, 0x33#8), (0x1003, 0x44#8), (0x1004, 0x55#8), (0x1005, 0x66#8), (0x1006, 0x77#8), (0x1007, 0x88#8)]) 0x89090003
        (fun t => (t.x 9, t.pc, t.ld)) = some (0xAAAAAAAA#32, 0x80010004#32, ⟨true, 9, 0x44332211#32⟩) := by
  decide

/-- Vectors V44-18, V44-19, V44-20, V44-21. -/
theorem test_lwr :
    run (((start.writeGpr 8 0x80001000#32).writeGpr 9 0xAAAAAAAA#32).withRam [(0x1000, 0x11#8), (0x1001, 0x22#8), (0x1002, 0x33#8), (0x1003, 0x44#8), (0x1004, 0x55#8), (0x1005, 0x66#8), (0x1006, 0x77#8), (0x1007, 0x88#8)]) 0x99090000
        (fun t => (t.x 9, t.pc, t.ld)) = some (0xAAAAAAAA#32, 0x80010004#32, ⟨true, 9, 0x44332211#32⟩) ∧
    run (((start.writeGpr 8 0x80001000#32).writeGpr 9 0xAAAAAAAA#32).withRam [(0x1000, 0x11#8), (0x1001, 0x22#8), (0x1002, 0x33#8), (0x1003, 0x44#8), (0x1004, 0x55#8), (0x1005, 0x66#8), (0x1006, 0x77#8), (0x1007, 0x88#8)]) 0x99090001
        (fun t => (t.x 9, t.pc, t.ld)) = some (0xAAAAAAAA#32, 0x80010004#32, ⟨true, 9, 0xAA443322#32⟩) ∧
    run (((start.writeGpr 8 0x80001000#32).writeGpr 9 0xAAAAAAAA#32).withRam [(0x1000, 0x11#8), (0x1001, 0x22#8), (0x1002, 0x33#8), (0x1003, 0x44#8), (0x1004, 0x55#8), (0x1005, 0x66#8), (0x1006, 0x77#8), (0x1007, 0x88#8)]) 0x99090002
        (fun t => (t.x 9, t.pc, t.ld)) = some (0xAAAAAAAA#32, 0x80010004#32, ⟨true, 9, 0xAAAA4433#32⟩) ∧
    run (((start.writeGpr 8 0x80001000#32).writeGpr 9 0xAAAAAAAA#32).withRam [(0x1000, 0x11#8), (0x1001, 0x22#8), (0x1002, 0x33#8), (0x1003, 0x44#8), (0x1004, 0x55#8), (0x1005, 0x66#8), (0x1006, 0x77#8), (0x1007, 0x88#8)]) 0x99090003
        (fun t => (t.x 9, t.pc, t.ld)) = some (0xAAAAAAAA#32, 0x80010004#32, ⟨true, 9, 0xAAAAAA44#32⟩) := by
  decide

/-- Vectors V44-22, V44-23, V44-24, V44-25. -/
theorem test_swl :
    run (((start.writeGpr 8 0x80001000#32).writeGpr 9 0x11223344#32).withRam [(0x1000, 0xAA#8), (0x1001, 0xAA#8), (0x1002, 0xAA#8), (0x1003, 0xAA#8)]) 0xA9090000
        (fun t => (t.pc, t.wordAt 0x80001000#32)) = some (0x80010004#32, some 0xAAAAAA11#32) ∧
    run (((start.writeGpr 8 0x80001000#32).writeGpr 9 0x11223344#32).withRam [(0x1000, 0xAA#8), (0x1001, 0xAA#8), (0x1002, 0xAA#8), (0x1003, 0xAA#8)]) 0xA9090001
        (fun t => (t.pc, t.wordAt 0x80001000#32)) = some (0x80010004#32, some 0xAAAA1122#32) ∧
    run (((start.writeGpr 8 0x80001000#32).writeGpr 9 0x11223344#32).withRam [(0x1000, 0xAA#8), (0x1001, 0xAA#8), (0x1002, 0xAA#8), (0x1003, 0xAA#8)]) 0xA9090002
        (fun t => (t.pc, t.wordAt 0x80001000#32)) = some (0x80010004#32, some 0xAA112233#32) ∧
    run (((start.writeGpr 8 0x80001000#32).writeGpr 9 0x11223344#32).withRam [(0x1000, 0xAA#8), (0x1001, 0xAA#8), (0x1002, 0xAA#8), (0x1003, 0xAA#8)]) 0xA9090003
        (fun t => (t.pc, t.wordAt 0x80001000#32)) = some (0x80010004#32, some 0x11223344#32) := by
  decide

/-- Vectors V44-26, V44-27, V44-28, V44-29. -/
theorem test_swr :
    run (((start.writeGpr 8 0x80001000#32).writeGpr 9 0x11223344#32).withRam [(0x1000, 0xAA#8), (0x1001, 0xAA#8), (0x1002, 0xAA#8), (0x1003, 0xAA#8)]) 0xB9090000
        (fun t => (t.pc, t.wordAt 0x80001000#32)) = some (0x80010004#32, some 0x11223344#32) ∧
    run (((start.writeGpr 8 0x80001000#32).writeGpr 9 0x11223344#32).withRam [(0x1000, 0xAA#8), (0x1001, 0xAA#8), (0x1002, 0xAA#8), (0x1003, 0xAA#8)]) 0xB9090001
        (fun t => (t.pc, t.wordAt 0x80001000#32)) = some (0x80010004#32, some 0x223344AA#32) ∧
    run (((start.writeGpr 8 0x80001000#32).writeGpr 9 0x11223344#32).withRam [(0x1000, 0xAA#8), (0x1001, 0xAA#8), (0x1002, 0xAA#8), (0x1003, 0xAA#8)]) 0xB9090002
        (fun t => (t.pc, t.wordAt 0x80001000#32)) = some (0x80010004#32, some 0x3344AAAA#32) ∧
    run (((start.writeGpr 8 0x80001000#32).writeGpr 9 0x11223344#32).withRam [(0x1000, 0xAA#8), (0x1001, 0xAA#8), (0x1002, 0xAA#8), (0x1003, 0xAA#8)]) 0xB9090003
        (fun t => (t.pc, t.wordAt 0x80001000#32)) = some (0x80010004#32, some 0x44AAAAAA#32) := by
  decide

/-- Vector V44-30 (second step): LWL merges into the pending load of the LWR before it. -/
theorem test_lwl_chain :
    run { (((start.writeGpr 8 0x80001000#32).writeGpr 9 0xAAAAAAAA#32).withRam [(0x1000, 0x11#8), (0x1001, 0x22#8), (0x1002, 0x33#8), (0x1003, 0x44#8), (0x1004, 0x55#8), (0x1005, 0x66#8), (0x1006, 0x77#8), (0x1007, 0x88#8)]) with
          ld := ⟨true, 9, 0xAA443322#32⟩ } 0x89090004 (fun t => t.ld) = some ⟨true, 9, 0x55443322#32⟩ := by
  decide

/-- Vectors V44-31 (second step), V44-32 and V44-33: the slot sees the old value; its own write or load discards the pending
one. -/
theorem test_load_delay :
    run { (start.writeGpr 9 7#32) with ld := ⟨true, 9, 0x44332211#32⟩ } 0x01205021
        (fun t => (t.x 9, t.x 10, t.ld.pending)) = some (0x44332211#32, 7#32, false) ∧
    run { (start.writeGpr 9 7#32) with ld := ⟨true, 9, 0x44332211#32⟩ } 0x24090005
        (fun t => (t.x 9, t.ld.pending)) = some (5#32, false) ∧
    run { ((((start.writeGpr 8 0x80001000#32).writeGpr 9 0xAAAAAAAA#32).withRam [(0x1000, 0x11#8), (0x1001, 0x22#8), (0x1002, 0x33#8), (0x1003, 0x44#8), (0x1004, 0x55#8), (0x1005, 0x66#8), (0x1006, 0x77#8), (0x1007, 0x88#8)])) with
          ld := ⟨true, 9, 0x44332211#32⟩ } 0x8D090004 (fun t => (t.x 9, t.ld)) =
      some (0xAAAAAAAA#32, ⟨true, 9, 0x88776655#32⟩) := by
  decide

/-- Vector V44-34 (second step): a store in the slot stores the old value. -/
theorem test_store_in_load_slot :
    run { ((start.writeGpr 8 0x80001000#32).writeGpr 9 7#32) with ld := ⟨true, 9, 0x44332211#32⟩ } 0xAD090008
        (fun t => (t.x 9, t.wordAt 0x80001008#32)) = some (0x44332211#32, some 7#32) := by
  decide

/-- Vector V44-38: a device store is one event, isolated cache or not. -/
theorem test_device_store :
    run (((start.withSr 0x10000#32).writeGpr 8 0x1F801070#32).writeGpr 9 0x12345678#32) 0xAD090000
        (fun t => (t.pc, t.events)) = some (0x80010004#32, [.write 0x1F801070 .word 0x12345678#32]) := by
  decide

/-- Vector V44-39 (both steps): a store is seen through a mirror in another segment. -/
theorem test_mirror :
    run ((start.writeGpr 8 0x80000100#32).writeGpr 9 0x12345678#32) 0xAD090000
        (fun t => (t.wordAt 0xA0600100#32, t.mem.ram.take 4)) =
      some (some 0x12345678#32, [(0x100, 0x78#8), (0x101, 0x56#8), (0x102, 0x34#8), (0x103, 0x12#8)]) := by
  decide

/-- Vector V44-40. -/
theorem test_lw_in_user_mode :
    run ((((start.withSr 0x2#32).writeGpr 8 0x80001000#32).withRam [(0x1000, 0x11#8), (0x1001, 0x22#8), (0x1002, 0x33#8), (0x1003, 0x44#8), (0x1004, 0x55#8), (0x1005, 0x66#8), (0x1006, 0x77#8), (0x1007, 0x88#8)]).at 0x10000#32) 0x8D090000
        (fun t => (t.x 9, t.pc, t.cop0.sr, t.cop0.epc, t.cop0.badVaddr)) =
        some (0x0#32, 0x80000080#32, 0x8#32, 0x10000#32, 0x80001000#32) := by
  decide

/-- Vectors V44-41, V44-43. -/
theorem test_lwc0 :
    run ((start.writeGpr 8 0x80001000#32).withRam [(0x1000, 0x1#8)]) 0xC10C0000
        (fun t => (t.pc, t.cop0.sr)) = some (0x80010004#32, 0x1#32) ∧
    run ((start.writeGpr 8 0x80001000#32).withRam [(0x1000, 0xFF#8), (0x1001, 0xFF#8), (0x1002, 0xFF#8), (0x1003, 0xFF#8)]) 0xC10D0000
        (fun t => (t.pc, t.cop0.cause)) = some (0x80010004#32, 0x300#32) := by
  decide

/-- Vector V44-42. -/
theorem test_swc0 :
    run (start.writeGpr 8 0x80001000#32) 0xE10F0000
        (fun t => (t.pc, t.wordAt 0x80001000#32)) = some (0x80010004#32, some 0x2#32) := by
  decide

/-- Vectors V45-01, V60-04, V60-05, V60-06. -/
theorem test_syscall :
    run (start.withSr 0x1#32) 0x0000000C
        (fun t => (t.pc, t.cop0.sr, t.cop0.epc)) = some (0x80000080#32, 0x4#32, 0x80010000#32) ∧
    run (start.withSr 0x400000#32) 0x0000000C
        (fun t => (t.pc, t.cop0.sr, t.cop0.epc)) = some (0xBFC00180#32, 0x400000#32, 0x80010000#32) ∧
    run ((start.withSr 0x3#32).at 0x10000#32) 0x0000000C
        (fun t => (t.pc, t.cop0.sr, t.cop0.epc)) = some (0x80000080#32, 0xC#32, 0x10000#32) ∧
    run ((start.withSr 0xF#32).at 0x10000#32) 0x0000000C
        (fun t => (t.pc, t.cop0.sr, t.cop0.epc)) = some (0x80000080#32, 0x3C#32, 0x10000#32) := by
  decide

/-- Vector V45-02. -/
theorem test_break :
    run (start.withSr 0x1#32) 0x0000000D
        (fun t => (t.pc, t.cop0.sr, t.cop0.epc)) = some (0x80000080#32, 0x4#32, 0x80010000#32) := by
  decide

/-- Vectors V45-03, V45-04, V45-16, V45-17. -/
theorem test_mfc0 :
    run (start.withSr 0x400000#32) 0x40086000
        (fun t => (t.x 8, t.pc, t.ld)) = some (0x0#32, 0x80010004#32, ⟨true, 8, 0x400000#32⟩) ∧
    run start 0x40087800 (fun t => (t.pc, t.ld)) = some (0x80010004#32, ⟨true, 8, 0x2#32⟩) ∧
    run ((start.withSr 0x2#32).at 0x10000#32) 0x40086000
        (fun t => (t.x 8, t.pc, t.cop0.sr, t.cop0.cause, t.cop0.epc)) =
        some (0x0#32, 0x80000080#32, 0x8#32, 0x2C#32, 0x10000#32) ∧
    run ((start.withSr 0x10000002#32).at 0x10000#32) 0x40086000
        (fun t => (t.pc, t.ld)) = some (0x10004#32, ⟨true, 8, 0x10000002#32⟩) := by
  decide

/-- Vectors V45-05, V45-06, V45-07, V45-08. -/
theorem test_mtc0 :
    run (start.writeGpr 8 0x10000#32) 0x40886000 (fun t => (t.pc, t.cop0.sr)) = some (0x80010004#32, 0x10000#32) ∧
    run (start.writeGpr 8 0xFFFFFFFF#32) 0x40886800 (fun t => (t.pc, t.cop0.cause)) = some (0x80010004#32, 0x300#32) ∧
    run (start.writeGpr 8 0x1234#32) 0x40887000 (fun t => t.pc) = some 0x80010004#32 ∧
    run (start.writeGpr 8 0xABCD#32) 0x40881800 (fun t => t.pc) = some 0x80010004#32 ∧
    run (start.writeGpr 8 0xABCD#32) 0x40881800 (fun t => t.cop0.gen[3]) = some 0xABCD#32 ∧
    run (start.writeGpr 8 0x1234#32) 0x40887000 (fun t => t.cop0.epc) = some 0#32 := by
  decide

/-- Vector V45-09. -/
theorem test_bc0f :
    run start 0x41000002 (fun t => t.pc) = some 0x80010004#32 := by
  decide

/-- Vector V45-10. -/
theorem test_bc0t :
    run start 0x41010002 (fun t => t.pc) = some 0x80010004#32 := by
  decide

/-- Vector V45-11. -/
theorem test_cfc0 :
    run (start.writeGpr 8 0x9#32) 0x40480000 (fun t => (t.x 8, t.pc)) = some (0x9#32, 0x80010004#32) := by
  decide

/-- Vector V45-12. -/
theorem test_ctc0 :
    run (start.writeGpr 8 0x9#32) 0x40C80000 (fun t => t.pc) = some 0x80010004#32 := by
  decide

/-- Vectors V45-13, V45-14. -/
theorem test_rfe :
    run (start.withSr 0x34#32) 0x42000010 (fun t => (t.pc, t.cop0.sr)) = some (0x80010004#32, 0x3D#32) ∧
    run (start.withSr 0x40000C#32) 0x42000010 (fun t => (t.pc, t.cop0.sr)) = some (0x80010004#32, 0x400003#32) := by
  decide

/-- Vector V45-15. -/
theorem test_cop0_generic :
    run start 0x42000002 (fun t => t.pc) = some 0x80010004#32 := by
  decide

/-- Vector V45-18. -/
theorem test_cop1 :
    run (start.withSr 0x20000000#32) 0x44000000
        (fun t => (t.pc, t.cop0.sr, t.cop0.cause, t.cop0.epc)) =
        some (0x80000080#32, 0x20000000#32, 0x1000002C#32, 0x80010000#32) := by
  decide

/-- Vector V45-19. -/
theorem test_lwc3 :
    run start 0xCC000000
        (fun t => (t.pc, t.cop0.sr, t.cop0.cause, t.cop0.epc)) =
        some (0x80000080#32, 0x0#32, 0x3000002C#32, 0x80010000#32) := by
  decide

/-- Vectors V45-20, V45-21. -/
theorem test_cop2 :
    run start 0x4A000000
        (fun t => (t.pc, t.cop0.sr, t.cop0.cause, t.cop0.epc)) =
        some (0x80000080#32, 0x0#32, 0x2000002C#32, 0x80010000#32) ∧
    stop (start.withSr 0x40000000#32) 0x4A000000 = some (.refused .cop2NotModelled) := by
  decide

/-- Vector V45-22. -/
theorem test_unnamed_cop0 :
    stop start 0x40200000 = some (.refused .unnamedCop0Encoding) := by
  decide

/-- Vector V45-23. -/
theorem test_reserved :
    run start 0xFC000000 (fun t => (t.pc, t.cop0.sr, t.cop0.epc)) = some (0x80000080#32, 0x0#32, 0x80010000#32) := by
  decide

/-- Vectors V60-07, V60-08, V60-09. -/
theorem test_interrupt :
    run ((start.withSr 0x101#32).withCause 0x100#32) 0x24090001
        (fun t => (t.x 9, t.pc, t.cop0.sr, t.cop0.epc)) = some (0x0#32, 0x80000080#32, 0x104#32, 0x80010000#32) ∧
    run ((start.withSr 0x100#32).withCause 0x100#32) 0x24090001
        (fun t => (t.x 9, t.pc)) = some (0x1#32, 0x80010004#32) ∧
    run ((start.withSr 0x101#32).withCause 0x400#32) 0x24090001
        (fun t => (t.x 9, t.pc)) = some (0x1#32, 0x80010004#32) := by
  decide

/-- Vector V60-11. -/
theorem test_user_fetch :
    run (start.withSr 0x2#32) 0x00000000
        (fun t => (t.pc, t.cop0.sr, t.cop0.epc, t.cop0.badVaddr)) =
        some (0x80000080#32, 0x8#32, 0x80010000#32, 0x80010000#32) := by
  decide

/-- Vectors V60-01, V60-02, V60-03 (second step): an exception in the slot of a taken branch, of an untaken one, and of an
untaken one under BD_ON_UNTAKEN_BRANCH. -/
theorem test_exception_in_slot :
    run { ((start.at 0x80010004#32).writeGpr 8 0x40000000#32) with bd := ⟨true, 0x8001000C#32⟩, slot := true } 0x01084820
        (fun t => (t.x 9, t.pc, t.cop0.epc, t.bd.pending, t.slot)) =
      some (0#32, 0x80000080#32, 0x80010000#32, false, false) ∧
    run { ((start.at 0x80010004#32).writeGpr 8 0x40000000#32) with slot := true } 0x01084820
        (fun t => (t.pc, t.cop0.epc)) = some (0x80000080#32, 0x80010004#32) ∧
    run { ((start.at 0x80010004#32).writeGpr 8 0x40000000#32) with
          slot := true, params := { Params.default with bdOnUntakenBranch := true } } 0x01084820
        (fun t => (t.pc, t.cop0.epc)) = some (0x80000080#32, 0x80010000#32) := by
  decide

/-- Vector V60-10 (second step): an interrupt in a delay slot saves the branch's address. -/
theorem test_interrupt_in_slot :
    run { (((start.withSr 0x401#32).withCause 0x400#32).at 0x80010004#32) with
          bd := ⟨true, 0x8001000C#32⟩, slot := true } 0x24090001
        (fun t => (t.x 9, t.pc, t.cop0.sr, t.cop0.epc)) = some (0#32, 0x80000080#32, 0x404#32, 0x80010000#32) := by
  decide

/-- Vector V60-12 (second step): the pending load is committed when the next instruction takes an exception. -/
theorem test_pending_load_at_exception :
    run { (start.at 0x80010004#32) with ld := ⟨true, 9, 0x44332211#32⟩ } 0x0000000C
        (fun t => (t.x 9, t.pc, t.cop0.epc, t.ld.pending)) = some (0x44332211#32, 0x80000080#32, 0x80010004#32, false) := by
  decide

/-- The CAUSE values of V60-01, V60-07, V44-06, V44-09, V45-01, V45-02, V45-23, V41-12, with CE (bits 29:28) masked as the
vectors' conventions say. -/
theorem test_cause (n : BitVec 2) :
    (let c := fun (s : State) (e : Exc) => Cause.enter s.cop0.cause e.code n s.inDelaySlot &&& 0xCFFFFFFF#32
     c { start with bd := ⟨true, 0#32⟩ } .ov = 0x80000030#32 ∧ c (start.withCause 0x100#32) .int = 0x00000100#32 ∧
     c start (.adEL 0#32) = 0x00000010#32 ∧ c start (.adES 0#32) = 0x00000014#32 ∧ c start .sys = 0x00000020#32 ∧
     c start .bp = 0x00000024#32 ∧ c start .ri = 0x00000028#32 ∧ c start .ov = 0x00000030#32) := by
  revert n
  decide

/-- Vectors V20-01 to V20-17: where a virtual address lands. -/
theorem test_routing :
    (let f := fun a : Word => placeOf Params.default (phys a)
     f 0x1000#32 = ⟨.ram, 0x1000⟩ ∧ f 0x80001000#32 = ⟨.ram, 0x1000⟩ ∧ f 0xA0001000#32 = ⟨.ram, 0x1000⟩ ∧
     f 0x200010#32 = ⟨.ram, 0x10⟩ ∧ f 0x807FFFFC#32 = ⟨.ram, 0x1FFFFC⟩ ∧ f 0x80800000#32 = ⟨.device, 0x800000⟩ ∧
     f 0x1F800000#32 = ⟨.scratch, 0x0⟩ ∧ f 0x9F8003FC#32 = ⟨.scratch, 0x3FC⟩ ∧
     f 0x1F800400#32 = ⟨.device, 0x1F800400⟩ ∧ f 0xBF801810#32 = ⟨.device, 0x1F801810⟩ ∧
     f 0x1F801080#32 = ⟨.device, 0x1F801080⟩ ∧ f 0xBFC00000#32 = ⟨.bios, 0x0⟩ ∧ f 0xBFC00180#32 = ⟨.bios, 0x180⟩ ∧
     f 0x9FC7FFFC#32 = ⟨.bios, 0x7FFFC⟩ ∧ f 0xBFC80000#32 = ⟨.device, 0x1FC80000⟩ ∧
     f 0xC0001000#32 = ⟨.ram, 0x1000⟩ ∧ f 0xFFFE0130#32 = ⟨.device, 0x1FFE0130⟩) := by
  decide

/-! ### Witnesses

For each statement with hypotheses, states and operands that meet them, at the ends of each clause's range. -/

/-- A word whose step is seen has a next state. -/
theorem next_of_run {s : State} {w : Nat} (h : run s w (fun _ => ()) = some ()) :
    ∃ t, step (s.withFetchWord 32 w) = .next t := by
  unfold run at h
  split at h
  · exact ⟨_, by assumption⟩
  · cases h
  · cases h

/-- A state in user mode at 0x0001_0000. -/
def user : State := (start.withSr 0x2#32).at 0x00010000#32

/-- A state whose $8 holds an address. -/
def base (a : Word) : State := start.writeGpr 8 a

/-- Every encoding's match value meets its own mask (the hypothesis of `DecodesAs`). -/
theorem witness_DecodesAs :
    0x00000007#32 &&& 0xFC00003F#32 = 0x00000007#32 ∧ 0xAC000000#32 &&& 0xFC000000#32 = 0xAC000000#32 ∧
    0x04110000#32 &&& 0xFC1F0000#32 = 0x04110000#32 ∧ 0x40C00000#32 &&& 0xFFE00000#32 = 0x40C00000#32 ∧
    0x41010000#32 &&& 0xFFFF0000#32 = 0x41010000#32 ∧ 0x43FFFFD0#32 &&& 0xFE00003F#32 = 0x42000010#32 := by
  decide

/-- SignedArithmeticTrapsExactlyOnOverflow: both clauses at both ends of the signed range, for ADD, SUB and ADDI. -/
theorem witness_SignedArithmetic :
    (let inRange := fun n : Int => -(2 ^ 31) ≤ n ∧ n < 2 ^ 31
     let s := (start.writeGpr 8 0x7FFFFFFF#32).writeGpr 9 0x80000000#32
     inRange ((s.x 8).toInt + (s.x 0).toInt) ∧ ¬ inRange ((s.x 8).toInt + (1#32).toInt) ∧
     inRange ((s.x 9).toInt - (s.x 0).toInt) ∧ ¬ inRange ((s.x 0).toInt - (s.x 9).toInt) ∧
     inRange ((s.x 9).toInt + (0#16).toInt) ∧ ¬ inRange ((s.x 9).toInt + (0xFFFF#16).toInt) ∧
     ¬ inRange ((s.x 8).toInt + (1#16).toInt)) := by
  decide

/-- MultiplyIsExact, DivideGivesQuotientAndRemainder, HiLoMovesTransfer: the hazard at both its ages, and its absence by age
and by parameter. -/
theorem witness_hazard :
    ({ start with hiloAge := 0 } : State).hazard ∧ ({ start with hiloAge := 1 } : State).hazard ∧ ¬ start.hazard ∧
    ¬ ({ start with hiloAge := 0, params := { Params.default with hiloHazard := .ignore } } : State).hazard := by
  unfold State.hazard
  decide

/-- DivideGivesQuotientAndRemainder: a zero divisor with a dividend of each sign, the overflowing pair, and the ordinary
case beside it. -/
theorem witness_DivideCases :
    (let s := (start.writeGpr 8 0x80000000#32).writeGpr 9 0xFFFFFFFF#32
     s.x 0 = 0#32 ∧ 0 ≤ (s.x 0).toInt ∧ ¬ 0 ≤ (s.x 8).toInt ∧ s.x 8 = 0x80000000#32 ∧ s.x 9 = 0xFFFFFFFF#32 ∧
     ¬ (s.x 9 = 0x80000000#32 ∧ s.x 9 = 0xFFFFFFFF#32) ∧ s.x 9 ≠ 0#32 ∧ ¬ (s.x 8 = 0x80000000#32 ∧ s.x 8 = 0xFFFFFFFF#32)) := by
  decide

/-- HiLoAgeCountsSteps: an MFHI step, and steps that are none: another instruction, an interrupt, a fetch error. -/
theorem witness_HiLoAge :
    run start 0x00004810 (fun t => t.hiloAge) = some 0 ∧ run start 0x00000000 (fun t => t.hiloAge) = some 2 ∧
    run ((start.withSr 0x101#32).withCause 0x100#32) 0x00004810 (fun t => t.hiloAge) = some 2 ∧
    run { (start.at 0x80010002#32) with hiloAge := 0 } 0x00004810 (fun t => t.hiloAge) = some 1 ∧
    (start.withFetchWord 32 0x00004810).nextInstr = .mfhi 9 ∧
    (start.withFetchWord 32 0x00004810).interruptTaken = false ∧ (start.withFetchWord 32 0x00004810).fetchBlocked = false := by
  decide

/-- ConditionalBranchesLatchTarget, LinkingBranchesAlwaysLink, OtherBcondzActAsBltzOrBgez, JumpsLatchTarget: a state outside
a slot, and a BcondZ word of each parity. -/
theorem witness_branches :
    start.slot = false ∧ start.bd.pending = false ∧
    (let f := fun w : Word => opField w = 1#6 ∧ rtBits w ≠ 0x00#5 ∧ rtBits w ≠ 0x01#5 ∧ rtBits w ≠ 0x10#5 ∧
       rtBits w ≠ 0x11#5
     f 0x05020002#32 ∧ f 0x051F0002#32) := by
  decide

/-- The start state meets the invariant. -/
theorem start_inv : start.Inv := ⟨by decide, by decide, by decide, by decide⟩

/-- ControlFollowsBranchLatch: invariant states with and without a pending branch, each with a next state. -/
theorem witness_ControlFollowsBranchLatch :
    ((start.withFetchWord 32 0x00000000).Inv ∧ ∃ t, step (start.withFetchWord 32 0x00000000) = .next t) ∧
    (let s := { start with bd := ⟨true, 0x80020000#32⟩, slot := true }
     (s.withFetchWord 32 0x00000000).Inv ∧ ∃ t, step (s.withFetchWord 32 0x00000000) = .next t) ∧
    (let s := { start with bd := ⟨true, 0x80020000#32⟩, slot := true }
     (s.withFetchWord 32 0x0000000C).Inv ∧ ∃ t, step (s.withFetchWord 32 0x0000000C) = .next t) :=
  ⟨⟨⟨by decide, by decide, by decide, by decide⟩, next_of_run (by decide)⟩,
   ⟨⟨by decide, by decide, by decide, by decide⟩, next_of_run (by decide)⟩,
   ⟨⟨by decide, by decide, by decide, by decide⟩, next_of_run (by decide)⟩⟩

/-- AlignedLoadsReadMemory: the address a stored-byte clause starts from: the first and last byte of the RAM window, of the scratchpad, of the BIOS. -/
theorem witness_AlignedLoads :
    (let f := fun a : Word => ¬ (base a).userForbidden ((base a).x 8 + (0#16).signExtend 32) ∧
       (base a).byteAt ((base a).x 8 + (0#16).signExtend 32) = some 0#8
     f 0x80000000#32 ∧ f 0x807FFFFF#32 ∧ f 0x1F800000#32 ∧ f 0x9F8003FF#32 ∧ f 0xBFC00000#32 ∧ f 0x9FC7FFFF#32) ∧
    (let f := fun a : Word => a.toNat % 2 = 0 ∧ (base a).holdsHalf a 0#16
     f 0x80000000#32 ∧ f 0x807FFFFE#32 ∧ f 0x9F8003FE#32 ∧ f 0x9FC7FFFE#32) ∧
    (let f := fun a : Word => a.toNat % 4 = 0 ∧ (base a).holdsWord a 0#32
     f 0x80000000#32 ∧ f 0x807FFFFC#32 ∧ f 0x9F8003FC#32 ∧ f 0x9FC7FFFC#32) ∧
    (let s := (base 0x80001000#32).withRam [(0x1000, 0x11#8), (0x1001, 0x22#8), (0x1002, 0x33#8), (0x1003, 0x44#8)]
     s.holdsWord (s.x 8 + (0#16).signExtend 32) 0x44332211#32 ∧
       s.holdsHalf (s.x 8 + (2#16).signExtend 32) 0x4433#16) := by
  unfold State.userForbidden State.holdsHalf State.holdsWord
  decide

/-- AlignedLoadsReadMemory (device space), Lwc0WritesCop0: the first and last device addresses around the other regions. -/
theorem witness_DeviceLoads :
    (let f := fun a : Word => ¬ (base a).userForbidden ((base a).x 8 + (0#16).signExtend 32) ∧
       (base a).regionOf ((base a).x 8 + (0#16).signExtend 32) = .device ∧ a.toNat % 4 = 0 ∧ (base a).cop0Usable
     f 0x80800000#32 ∧ f 0x1F7FFFFC#32 ∧ f 0x1F800400#32 ∧ f 0x1FBFFFFC#32 ∧ f 0x1FC80000#32 ∧ f 0x1FFFFFFC#32) := by
  unfold State.userForbidden State.cop0Usable
  decide

/-- UnalignedLoadsMerge: each offset in a word, a pending load of the same register or none, stored bytes or device space. -/
theorem witness_UnalignedLoads :
    (let s := (base 0x80001000#32).withRam [(0x1000, 0x11#8), (0x1001, 0x22#8), (0x1002, 0x33#8), (0x1003, 0x44#8)]
     let f := fun k : BitVec 16 => ¬ s.userForbidden (s.x 8 + k.signExtend 32) ∧
       s.holdsWord ((s.x 8 + k.signExtend 32) &&& 0xFFFFFFFC#32) 0x44332211#32
     f 0#16 ∧ f 1#16 ∧ f 2#16 ∧ f 3#16) ∧
    (let s := base 0x1F801810#32
     let f := fun k : BitVec 16 => s.regionOf ((s.x 8 + k.signExtend 32) &&& 0xFFFFFFFC#32) = .device
     f 0#16 ∧ f 3#16) ∧
    (let s := { start with ld := ⟨true, 9, 5#32⟩ }; s.ld.pending = true ∧ s.ld.reg = 9 ∧ s.ld.reg ≠ 10) := by
  unfold State.userForbidden State.holdsWord
  decide

/-- LwrThenLwlLoadsUnalignedWord: an aligned and an unaligned address, the last one across the RAM mirror's edge. -/
theorem witness_LwrThenLwl :
    (let s := (start.writeGpr 8 0x80001000#32).withRam
       [(0x1001, 0x22#8), (0x1002, 0x33#8), (0x1003, 0x44#8), (0x1004, 0x55#8)]
     s.params.wf ∧ s.ld.pending = false ∧ (4#16).signExtend 32 = (1#16).signExtend 32 + 3#32 ∧
     ¬ s.userForbidden (s.x 8 + (1#16).signExtend 32) ∧ ¬ s.userForbidden (s.x 8 + (1#16).signExtend 32 + 3#32) ∧
     s.holdsWord (s.x 8 + (1#16).signExtend 32) 0x55443322#32 ∧ s.holdsWord (s.x 8 + (0xFFFC#16).signExtend 32) 0#32 ∧
     (0xFFFF#16).signExtend 32 = (0xFFFC#16).signExtend 32 + 3#32) ∧
    (let s := (start.writeGpr 8 0x80200000#32).withRam [(0, 0x55#8), (0x1FFFFF, 0x22#8)]
     s.holdsWord (s.x 8 + (0xFFFF#16).signExtend 32) 0x00005522#32 ∧
       (2#16).signExtend 32 = (0xFFFF#16).signExtend 32 + 3#32) := by
  unfold State.userForbidden State.holdsWord
  decide

/-- AlignedStoresWriteBytes, UnalignedStoresWriteMaskedBytes, Swc0StoresCop0, LoadAfterStoreThroughAlias: well-formed states
with addresses in each region; RAM takes stores unless the cache is isolated, scratchpad always, BIOS and devices never. -/
theorem witness_stores :
    (∀ a : Word, (base a).params.wf ∧ (base a).mem.wf) ∧
    (let f := fun a : Word => ¬ (base a).userForbidden ((base a).x 8 + (0#16).signExtend 32) ∧ a.toNat % 4 = 0 ∧
       (base a).cop0Usable
     f 0x80001000#32 ∧ f 0x807FFFFC#32 ∧ f 0x1F800000#32 ∧ f 0x9F8003FC#32 ∧ f 0xBFC00000#32 ∧ f 0x1F801810#32) ∧
    (base 0#32).takesStores 0x807FFFFC#32 = true ∧ ((base 0#32).withSr 0x10000#32).takesStores 0x807FFFFC#32 = false ∧
    ((base 0#32).withSr 0x10000#32).takesStores 0x9F8003FC#32 = true ∧ (base 0#32).takesStores 0xBFC00000#32 = false ∧
    (base 0#32).takesStores 0x1F801810#32 = false := by
  refine ⟨fun _ => (by decide : start.params.wf ∧ start.mem.wf), ?_⟩
  unfold State.userForbidden State.cop0Usable
  decide

/-- LoadAfterStoreThroughAlias: a RAM mirror in another segment, and the scratchpad through KSEG0. -/
theorem witness_alias :
    (let s := base 0x80000100#32
     ∃ t, exec (.sw 9 8 0#16) s = .next t ∧ ¬ t.userForbidden 0xA0600100#32 ∧ s.sameByte 0xA0600100#32 (s.x 8) ∧
       t.x 8 + (0#16).signExtend 32 = 0x80000100#32 ∧ (0xA0600100#32).toNat % 4 = 0) ∧
    (base 0#32).sameByte 0x1F800010#32 0x9F800010#32 ∧ ¬ (base 0#32).sameByte 0x1F800010#32 0x9F800014#32 :=
  ⟨⟨_, rfl, by unfold State.userForbidden; decide, by unfold State.sameByte; decide, by decide, by decide⟩,
   by unfold State.sameByte; decide, by unfold State.sameByte; decide⟩

/-- AddressErrorsBlockTheAccess: each misalignment, and a kernel address in user mode, with COP0 usable there by CU0. -/
theorem witness_AddressErrors :
    ((0x80001001#32).toNat % 2 ≠ 0 ∧ (0x80001002#32).toNat % 4 ≠ 0 ∧ (0x80001002#32).toNat % 2 = 0 ∧
      (0x80001003#32).toNat % 4 ≠ 0) ∧
    (user.writeGpr 8 0x80000000#32).userForbidden ((user.writeGpr 8 0x80000000#32).x 8 + (0#16).signExtend 32) ∧
    ¬ user.userForbidden 0x7FFFFFFC#32 ∧ (user.withSr 0x10000002#32).userForbidden 0xFFFFFFFC#32 ∧
    (user.withSr 0x10000002#32).cop0Usable ∧ ¬ user.cop0Usable ∧ start.cop0Usable := by
  unfold State.userForbidden State.cop0Usable
  decide

/-- CacheIsolationDropsRamAndBiosWrites: an isolated state with a next state, and an address of each region. -/
theorem witness_CacheIsolation :
    (let s := start.withSr 0x10000#32
     (s.withFetchWord 32 0xAC000000).cop0.sr.getLsbD 16 = true ∧ (∃ t, step (s.withFetchWord 32 0xAC000000) = .next t) ∧
     s.mem.wf ∧ s.regionOf 0x80000000#32 = .ram ∧ s.regionOf 0xBFC7FFFF#32 = .bios ∧ s.regionOf 0x1F8003FF#32 = .scratch ∧
     s.regionOf 0x1F801810#32 = .device) :=
  ⟨by decide, next_of_run (by decide), by decide, by decide, by decide, by decide, by decide⟩

/-- SegmentsAndMirrorsAlias: two segments, two mirrors. -/
theorem witness_SegmentsAndMirrors :
    (0x9FC00000#32).toNat % 2 ^ 29 = (0xBFC00000#32).toNat % 2 ^ 29 ∧
    start.regionOf 0x00000010#32 = .ram ∧ start.regionOf 0x80600010#32 = .ram ∧
    (0x00000010#32).toNat % 2 ^ 29 % 0x200000 = (0x80600010#32).toNat % 2 ^ 29 % 0x200000 := by
  decide

/-- Mfc0LoadsCop0Register, Mtc0WritesCop0Register, Cop0NoOpsChangeNothing, RfePopsModeStack, Cop0UnusableInUserMode,
UnnamedCop0IsRefused: COP0 usable in kernel mode and in user mode with CU0, and not usable; words of each clause. -/
theorem witness_cop0 :
    start.cop0Usable ∧ (user.withSr 0x10000002#32).cop0Usable ∧ (0x3F#6 ≠ 0x10#6) ∧
    (user.cop0.sr.getLsbD 1 = true ∧ user.cop0.sr.getLsbD 28 = false) ∧
    (0x43E0000F#32 &&& 0xFE000000#32 = 0x42000000#32 ∧ functField 0x43E0000F#32 ≠ 0x10#6) ∧
    isCop0Instr .cop0Rs01 = true ∧ isCop0Instr (.swc0 6 0 0#16) = true ∧
    (opField 0x41E00000#32 = 0x10#6 ∧ rsBits 0x41E00000#32 = 0x0F#5) ∧
    (opField 0x411F0000#32 = 0x10#6 ∧ rsBits 0x411F0000#32 = 0x08#5 ∧ rtBits 0x411F0000#32 ≠ 0#5 ∧
      rtBits 0x411F0000#32 ≠ 1#5) ∧
    opField 0xC0000000#32 = 0x30#6 ∧ opField 0xE0000000#32 = 0x38#6 := by
  unfold State.cop0Usable
  decide

/-- ReservedWordsRaiseRI, Cop2TrapsOrIsRefused: reserved instructions of both kinds, CU2 clear and set. -/
theorem witness_ReservedAndCop2 :
    isReserved .reservedOp14 = true ∧ isReserved .reservedFunct3F = true ∧ reservedWord 0x0000002C#32 = true ∧
    start.cop0.sr.getLsbD 30 = false ∧ (start.withSr 0x40000000#32).cop0.sr.getLsbD 30 = true := by
  decide

/-- DelaySlotExceptionsSaveTheBranch: each clause. -/
theorem witness_DelaySlotExceptions :
    ({ start with bd := ⟨true, 0#32⟩, slot := true } : State).bd.pending = true ∧
    (let s := { start with slot := true, params := { Params.default with bdOnUntakenBranch := true } }
     s.bd.pending = false ∧ s.params.bdOnUntakenBranch = true ∧ s.slot = true) ∧
    (start.bd.pending = false ∧ start.params.bdOnUntakenBranch = false) := by
  decide

/-- EnabledInterruptIsTaken, FetchAddressErrors, JumpsLatchTarget (its last clause), StepRunsTheDecodedInstruction: a running state with an enabled interrupt,
with a misaligned pc (each offset), with a kernel pc in user mode, with a word at the pc, and with the pc in device space. -/
theorem witness_step_starts :
    ((start.withSr 0x8001#32).withCause 0x8000#32).interruptTaken = true ∧
    ((start.withSr 0x8000#32).withCause 0x8000#32).interruptTaken = false ∧ start.status = .running ∧
    (let f := fun a : Word => (start.at a).pc.toNat % 4 ≠ 0
     f 0x80010001#32 ∧ f 0x80010002#32 ∧ f 0x80010003#32) ∧
    (user.at 0x80000000#32).userForbidden (user.at 0x80000000#32).pc ∧ ¬ user.userForbidden user.pc ∧
    (let s := start.withFetchWord 32 0x21080001
     s.status = .running ∧ s.interruptTaken = false ∧ s.pc.toNat % 4 = 0 ∧ ¬ s.userForbidden s.pc ∧
       s.holdsWord s.pc 0x21080001#32) ∧
    (start.at 0x1F801810#32).regionOf (start.at 0x1F801810#32).pc = .device := by
  unfold State.userForbidden State.holdsWord
  decide

/-- OnlyListedExceptionCodes, CauseBitsChangeOnlyAsTheSpecSays, ReadOnlyCop0RegistersChangeByExceptionsOnly,
RegisterZeroIsZeroAfterEveryStep, StepsKeepBiosAndExtendHistory: steps with a next state that take an exception (an address
error among them), write COP0, and do neither. -/
theorem witness_steps :
    (∃ t, step (start.withFetchWord 32 0x00000000) = .next t) ∧ (∃ t, step (start.withFetchWord 32 0x0000000C) = .next t) ∧
    (∃ t, step (start.withFetchWord 32 0x8C000001) = .next t) ∧ (∃ t, step (start.withFetchWord 32 0x40886800) = .next t) ∧
    ∃ t, step (start.withFetchWord 32 0x8D000000) = .next t :=
  ⟨next_of_run (by decide), next_of_run (by decide), next_of_run (by decide), next_of_run (by decide),
   next_of_run (by decide)⟩

/-- UserModeReachesKernelByExceptionsOnly: user mode with CU0 = 0, a step that stays and one that enters the kernel. -/
theorem witness_UserMode :
    (user.withFetchWord 32 0x00000000).cop0.sr.getLsbD 1 = true ∧ (user.withFetchWord 32 0x00000000).cop0.sr.getLsbD 28 = false ∧
    (∃ t, step (user.withFetchWord 32 0x00000000) = .next t) ∧ ∃ t, step (user.withFetchWord 32 0x40886000) = .next t :=
  ⟨by decide, by decide, next_of_run (by decide), next_of_run (by decide)⟩

/-- StoppedStatesHaveNoStep: a refused and a faulted state. -/
theorem witness_StoppedStates :
    start.mark (.refused .branchInDelaySlot) = { start with status := .refused .branchInDelaySlot } ∧
    start.mark (.fault .hiloHazard) = { start with status := .faulted .hiloHazard } := by
  decide

/-- PendingLoadIsInvisibleToTheSlot: a pending load, and instructions that read its register, load into it, or trap. -/
theorem witness_PendingLoad :
    chainsLoads (.addu 10 9 0) = false ∧ chainsLoads (.lw 9 8 0#16) = false ∧ chainsLoads (.syscall 0#20) = false ∧
    ({ start with ld := ⟨true, 9, 5#32⟩ } : State).ld.pending = true := by
  decide

/-- StepKeepsTheInvariant: invariant states with a next state, a plain one and one with a taken branch and listed memory. -/
theorem witness_StepKeepsTheInvariant :
    ((start.withFetchWord 32 0x24090005).Inv ∧ ∃ t, step (start.withFetchWord 32 0x24090005) = .next t) ∧
    (let s := { (start.withRam [(0x1000, 0x11#8)]) with bd := ⟨true, 0x80020000#32⟩, slot := true }
     (s.withFetchWord 32 0xA1090000).Inv ∧ ∃ t, step (s.withFetchWord 32 0xA1090000) = .next t) :=
  ⟨⟨⟨by decide, by decide, by decide, by decide⟩, next_of_run (by decide)⟩,
   ⟨⟨by decide, by decide, by decide, by decide⟩, next_of_run (by decide)⟩⟩

/-- DecodeReadsBackEveryEncodedInstruction, EveryWordLiesInExactlyItsRow: well-formed instructions at the ends of their
fields, and a word inside a row. -/
theorem witness_encoding :
    Instr.wf (.sll 31 31 31#5) = true ∧ Instr.wf (.cop0Generic 0x3F#6) = true ∧ Instr.wf (.cop0Rs08Other 31#5) = true ∧
    Instr.wf (.cop0Rs08Other 2#5) = true ∧ Instr.wf (.j 0x3FFFFFF#26) = true ∧
    (Instr.row (.jr 0)).covers 0x03E0F808#32 = true := by
  decide

/-- LoadExeSetsTheInitialRegisters: a file with a stack base and one without. -/
theorem witness_LoadExe :
    (let file : List Byte := List.replicate 0x30 0#8 ++ [0xF0#8, 0xFF#8, 0x1F#8, 0x80#8, 0x08#8]
     fileWord file 0x30 = 0x801FFFF0#32 ∧ fileWord file 0x34 = 8#32) ∧ fileWord [] 0x30 = 0#32 := by
  decide

/-- HiLoHazardFaultsExactly, BranchInSlotIsRefused: both sides hold somewhere. -/
theorem witness_exact_stops :
    stop { start with hiloAge := 1 } 0x00000018 = some (.faulted .hiloHazard) ∧
    isBranchOrJump (.bcondzRt1F 0 0#16) = true ∧
    stop { start with slot := true } 0x041F0000 = some (.refused .branchInDelaySlot) := by
  decide

end Sys2Proof.Tests
end

section
/-! PROOFS. The state family (10_state.md): what a step does to the COP0 bank, the machine's invariant, the COP0 moves,
stopped runs and reset. -/

namespace Sys2Proof.Machine

/-! ### The masks of CAUSE -/

/-- Exception entry leaves every bit outside ExcCode, CE and BD alone (10_state.md R151). -/
theorem Cause.enter_mask (c : Word) (code : BitVec 5) (ce : BitVec 2) (bd : Bool) :
    Cause.enter c code ce bd &&& ~~~0xB000007C#32 = c &&& ~~~0xB000007C#32 := by
  apply BitVec.eq_of_getLsbD_eq
  intro i hi
  simp only [Cause.enter]
  interval_cases i <;> simp

/-- Replacing the bits under a mask leaves the bits outside it alone. -/
theorem and_not_mask_of_replace (c v m : Word) : ((c &&& ~~~m) ||| (v &&& m)) &&& ~~~m = c &&& ~~~m := by
  ext i hi
  cases hm : m[i] <;> simp [hm]

/-! ### The COP0 write accessor, register by register (10_state.md R131) -/

@[simp] theorem Cop0.written_epc (c : Cop0) (i : CopReg) (v : Word) : (c.written i v).epc = c.epc := by
  unfold Cop0.written; split_ifs <;> rfl
@[simp] theorem Cop0.written_badVaddr (c : Cop0) (i : CopReg) (v : Word) : (c.written i v).badVaddr = c.badVaddr := by
  unfold Cop0.written; split_ifs <;> rfl
@[simp] theorem Cop0.written_prid (c : Cop0) (i : CopReg) (v : Word) : (c.written i v).prid = c.prid := by
  unfold Cop0.written; split_ifs <;> rfl

theorem Cop0.written_sr (c : Cop0) (v : Word) : c.written 12 v = { c with sr := v } := rfl

/-- A write reaches bits 9:8 of CAUSE at most. -/
theorem Cop0.written_cause_mask (c : Cop0) (i : CopReg) (v : Word) :
    (c.written i v).cause &&& ~~~0x00000300#32 = c.cause &&& ~~~0x00000300#32 := by
  unfold Cop0.written
  split_ifs
  · rfl
  · exact and_not_mask_of_replace c.cause v 0x300#32
  · rfl
  · rfl

/-! ### What a step does to the COP0 bank -/

/-- An exception entered from the start of the step `s`: the state it is entered from has the COP0 bank and the slot test
of `s`, since a fetch changes neither. -/
def EntersFrom (s t : State) : Prop :=
  ∃ (u : State) (e : Exc), u.cop0 = s.cop0 ∧ u.inDelaySlot = s.inDelaySlot ∧ t = u.takeException e s.pc

theorem State.afterFetch_inDelaySlot (s : State) : s.afterFetch.inDelaySlot = s.inDelaySlot := by
  simp [State.inDelaySlot]

/-- Every step enters an exception, keeps the COP0 bank, writes it through the write accessor, or pops the mode stack. -/
theorem step_cop0 {s t : State} (h : step s = .next t) :
    EntersFrom s t ∨ t.cop0 = s.cop0 ∨ (∃ i v, t.cop0 = s.cop0.written i v) ∨
      t.cop0 = { s.cop0 with sr := Sr.pop s.cop0.sr } := by
  rcases step_ends h with ⟨e, ht⟩ | ⟨e, ht⟩ | ⟨u, e, hu, rfl, _⟩
  · exact .inl ⟨s, e, rfl, rfl, ht⟩
  · exact .inl ⟨s.afterFetch, e, s.afterFetch_cop0, s.afterFetch_inDelaySlot, ht⟩
  · have hc := hu.cop0
    rw [State.afterFetch_cop0] at hc
    rw [State.retire_cop0]
    rcases hc with hc | ⟨_, hc | hc⟩
    · exact .inr (.inl hc)
    · exact .inr (.inr (.inl hc))
    · exact .inr (.inr (.inr hc))

/-- A step that enters an exception: the entry of R1020 in terms of the state the step began in. -/
theorem EntersFrom.spec {s t : State} (h : EntersFrom s t) :
    ∃ (e : Exc) (ce : BitVec 2), t.pc = (if s.cop0.sr.getLsbD 22 then 0xBFC00180#32 else 0x80000080#32) ∧
      t.cop0.cause = Cause.enter s.cop0.cause e.code ce s.inDelaySlot ∧
      t.cop0.epc = (if s.inDelaySlot then s.pc - 4#32 else s.pc) ∧
      t.cop0.badVaddr = e.badVaddr s.cop0.badVaddr ∧ t.cop0.prid = s.cop0.prid := by
  obtain ⟨u, e, hc, hd, rfl⟩ := h
  refine ⟨e, u.entryCE e, ?_, ?_, ?_, ?_, ?_⟩
  · rw [State.takeException_pc, hc]; rfl
  · rw [State.takeException_cop0, State.entryCop0, hc, hd]
  · rw [State.takeException_cop0, State.entryCop0, State.entryEpc, hd]
  · rw [State.takeException_cop0, State.entryCop0, hc]
  · rw [State.takeException_cop0, State.entryCop0, hc]

/-- Outside exception entry a step leaves EPC, BadVaddr and PRID alone, and CAUSE outside bits 9:8. -/
theorem step_cop0_entered_or_kept {s t : State} (h : step s = .next t) :
    EntersFrom s t ∨ (KeepsEntryRegs s t ∧
      t.cop0.cause &&& ~~~0x00000300#32 = s.cop0.cause &&& ~~~0x00000300#32) := by
  rcases step_cop0 h with hx | hc | ⟨i, v, hc⟩ | hc
  · exact .inl hx
  · exact .inr ⟨⟨by rw [hc], by rw [hc], by rw [hc]⟩, by rw [hc]⟩
  · refine .inr ⟨⟨?_, ?_, ?_⟩, ?_⟩ <;> rw [hc]
    · exact Cop0.written_epc ..
    · exact Cop0.written_badVaddr ..
    · exact Cop0.written_prid ..
    · exact Cop0.written_cause_mask ..
  · exact .inr ⟨⟨by rw [hc], by rw [hc], by rw [hc]⟩, by rw [hc]⟩

/-- BadVaddr changes at the entry of AdEL and AdES only, whose codes are 4 and 5 (60_exceptions.md R1022). -/
theorem Exc.badVaddr_eq_or_code (e : Exc) (old : Word) : e.badVaddr old = old ∨ e.code = 4#5 ∨ e.code = 5#5 := by
  cases e with
  | adEL a => exact .inr (.inl rfl)
  | adES a => exact .inr (.inr rfl)
  | _ => exact .inl rfl

theorem step_prid {s t : State} (h : step s = .next t) : t.cop0.prid = s.cop0.prid := by
  rcases step_cop0_entered_or_kept h with hx | ⟨⟨_, _, hp⟩, _⟩
  · obtain ⟨_, _, _, _, _, _, hp⟩ := hx.spec
    exact hp
  · exact hp

/-- Settles O42: an entry changes CAUSE under the mask 0xB000007C and goes to the vector, every other step changes it under
the mask 0x300. -/
theorem causeBitsChangeOnlyAsTheSpecSays : Obligations.CauseBitsChangeOnlyAsTheSpecSays := by
  intro s t h
  rcases step_cop0_entered_or_kept h with hx | ⟨_, hc⟩
  · obtain ⟨e, ce, hpc, hc, _⟩ := hx.spec
    exact .inr ⟨by rw [hc]; exact Cause.enter_mask .., hpc⟩
  · exact .inl hc

/-- Settles O43: only an entry writes EPC, and only the entry of an address error BadVaddr. -/
theorem readOnlyCop0RegistersChangeByExceptionsOnly : Obligations.ReadOnlyCop0RegistersChangeByExceptionsOnly := by
  intro s t h
  refine ⟨step_prid h, ?_⟩
  rcases step_cop0_entered_or_kept h with hx | ⟨⟨he, hb, _⟩, _⟩
  · obtain ⟨e, ce, hpc, hc, he, hb, _⟩ := hx.spec
    refine ⟨.inr ⟨hpc, he⟩, ?_⟩
    rw [hb, hc, Cause.enter_excCode]
    exact (e.badVaddr_eq_or_code _).imp_right fun hcode => ⟨hpc, hcode⟩
  · exact ⟨.inl he, .inl hb⟩

/-! ### The invariant -/

/-- Memory stays in canonical form through a step. -/
theorem step_mem_wf {s t : State} (hm : s.mem.wf) (h : step s = .next t) : t.mem.wf := by
  rcases step_ends h with ⟨e, rfl⟩ | ⟨e, rfl⟩ | ⟨u, e, hu, rfl, _⟩
  · rwa [State.takeException_mem]
  · rwa [State.takeException_mem, State.afterFetch_mem]
  · rw [State.retire_mem]
    exact hu.mem_wf (by rwa [State.afterFetch_mem])

/-- Register 0 is zero after every step (40_cycle.md R410). -/
theorem step_gpr_zero {s t : State} (h : step s = .next t) : t.gpr[0] = 0#32 := by
  rcases step_ends h with ⟨e, rfl⟩ | ⟨e, rfl⟩ | ⟨u, e, _, rfl, _⟩
  · exact State.gpr_zero_takeException ..
  · exact State.gpr_zero_takeException ..
  · exact State.gpr_zero_retire ..

/-- After every step a branch is pending in its slot only (40_cycle.md R412, R413). -/
theorem step_pending_slot {s t : State} (h : step s = .next t) : t.bd.pending = true → t.slot = true := by
  rcases step_ends h with ⟨e, rfl⟩ | ⟨e, rfl⟩ | ⟨u, e, _, rfl, _, _, hj⟩
  · simp
  · simp
  · exact State.pending_retire hj

theorem step_inv {s t : State} (hs : s.Inv) (h : step s = .next t) : t.Inv where
  memory := step_mem_wf hs.memory h
  zero := step_gpr_zero h
  slot := step_pending_slot h
  prid := (step_prid h).trans hs.prid

theorem State.setInterruptLines_inv {s : State} (hs : s.Inv) (l : BitVec 6) : (s.setInterruptLines l).Inv where
  memory := hs.memory
  zero := hs.zero
  slot := hs.slot
  prid := hs.prid

/-- An array that lists nothing is in canonical form. -/
theorem cellsWf_nil (n : Nat) : cellsWf n [] := ⟨List.Pairwise.nil, by simp⟩

theorem State.reset_inv : State.reset.Inv where
  memory := ⟨cellsWf_nil _, cellsWf_nil _, cellsWf_nil _⟩
  zero := by decide
  slot := by decide
  prid := rfl

/-- Reset keeps the BIOS image and takes everything else the invariant speaks of from the reset state. -/
theorem State.resetAction_inv {s : State} (hs : s.Inv) : s.resetAction.Inv where
  memory := ⟨State.reset_inv.memory.1, State.reset_inv.memory.2.1, hs.memory.2.2⟩
  zero := State.reset_inv.zero
  slot := State.reset_inv.slot
  prid := rfl

/-- Settles O50: each part of the invariant is kept by every step, by the interrupt lines and by reset. -/
theorem stepKeepsTheInvariant : Obligations.StepKeepsTheInvariant :=
  ⟨fun _ _ hs h => step_inv hs h, fun _ l hs => State.setInterruptLines_inv hs l, fun _ hs => State.resetAction_inv hs⟩

/-- Settles O51. -/
theorem resetMeetsTheInvariant : Obligations.ResetMeetsTheInvariant := State.reset_inv

/-! ### The COP0 moves -/

/-- An instruction that is guarded by the usability check raises CpU(0) where the check fails (45_system_cop.md R901). -/
theorem checksCop0_of_withCop0 {s : State} {i : Instr} {k : Host.Outcome State Fault Refusal}
    (h : exec i s = s.withCop0 k) : ChecksCop0 s i := fun hu =>
  ⟨_, h.trans (State.withCop0_blocked (State.cop0Blocked_true hu) k),
    ⟨s.takeException_spec (.cpU 0#2) s.currentPc, rfl⟩, Cause.enter_ce ..⟩

theorem exec_mfc0 (rt : Reg) (cr : CopReg) (s : State) :
    exec (.mfc0 rt cr) s = s.withCop0 ((s.cop0Read cr).2.completeLoad rt (s.cop0Read cr).1) := rfl

theorem exec_mtc0 (rt : Reg) (cr : CopReg) (s : State) :
    exec (.mtc0 rt cr) s = s.withCop0 ((s.cop0Write cr (s.x rt)).complete { }) := rfl

/-- A load step from a state that differs from s in the draws made is a load step from s with those draws counted. -/
theorem LoadStep.of_drawn {s u t : State} {d : Reg} {v : Word} {n : Nat} (h : LoadStep u t d v 0) (hg : u.gpr = s.gpr)
    (hld : u.ld = s.ld) (hbd : u.bd = s.bd) (hpc : u.pc = s.pc) (ha : u.hiloAge = s.hiloAge) (hh : KeepsHiLo s u)
    (hc : KeepsCop0 s u) (hm : KeepsMemory s u) (hb : KeepsBook s u) (hd : u.draws = s.draws + n) :
    LoadStep s t d v n := by
  obtain ⟨⟨hl, hreg, hrest⟩, ⟨hpc', hpend, hslot⟩, hage, ⟨hhi, hlo⟩, hcop, ⟨hbytes, hev⟩, ⟨hcur, hst, hpar⟩, hdr⟩ := h
  exact {
    regs := ⟨hl, hreg.trans (State.x_congr hg d), fun r hr => (hrest r hr).trans (State.arrived_congr hg hld r)⟩
    control := ⟨by rw [hpc', hbd, hpc], hpend, hslot⟩
    age := by unfold Ages; rw [hage, ha]
    hilo := ⟨hhi.trans hh.1, hlo.trans hh.2⟩
    cop0 := hcop.trans hc
    memory := ⟨fun a => (hbytes a).trans (hm.1 a), hev.trans hm.2⟩
    book := ⟨hcur.trans hb.1, hst.trans hb.2.1, hpar.trans hb.2.2⟩
    draws := hdr.trans hd }

/-- MFC0 where COP0 is usable: the read accessor's value is pending for rt (45_system_cop.md R910). -/
theorem exec_mfc0_usable {s : State} (hu : s.cop0Usable) (rt : Reg) (cr : CopReg) :
    ∃ t, exec (.mfc0 rt cr) s = .next t ∧
      LoadStep s t rt (s.cop0.shown (Config.drawTar s.draws) cr) (if cr = 6 then 1 else 0) := by
  obtain ⟨t, ht, hstep⟩ := (s.cop0Read cr).2.completeLoad_spec rt (s.cop0Read cr).1
  rw [exec_mfc0, State.withCop0_usable (State.cop0Blocked_false hu), ← State.cop0Read_fst]
  refine ⟨t, ht, hstep.of_drawn (by simp) (by simp) (by simp) (by simp) (by simp) ⟨by simp, by simp⟩
    (State.cop0Read_cop0 s cr) (keepsMemory_of (by simp) (by simp) (by simp)) ⟨by simp, by simp, by simp⟩ ?_⟩
  rw [State.cop0Read_snd_draws]
  split_ifs <;> rfl

/-- Settles O27. -/
theorem mfc0LoadsCop0Register : Obligations.Mfc0LoadsCop0Register :=
  ⟨decodesAs_rs 0x00#5 rfl rfl fun w h => by unfold decodeCop0; rw [h]; rfl,
   fun _ rt cr => ⟨checksCop0_of_withCop0 (exec_mfc0 rt cr _), fun hu => exec_mfc0_usable hu rt cr⟩⟩

/-- MTC0 where COP0 is usable: the bank is the write accessor's result (45_system_cop.md R911). -/
theorem exec_mtc0_usable {s : State} (hu : s.cop0Usable) (rt : Reg) (cr : CopReg) :
    ∃ t, exec (.mtc0 rt cr) s = .next t ∧ Cop0Step s t (s.cop0.written cr (s.x rt)) := by
  rw [exec_mtc0, State.withCop0_usable (State.cop0Blocked_false hu), ← State.cop0Write_cop0]
  exact ⟨_, rfl, State.cop0Step_of (by simp) (by simp) (by simp) (by simp) (by simp) ⟨by simp, by simp⟩ (by simp) (by simp)
    ⟨by simp, by simp, by simp⟩ (by simp)⟩

/-- The interrupt test in terms of the bits of SR and CAUSE (60_exceptions.md R1040). -/
theorem State.interruptTaken_iff (s : State) : s.interruptTaken = true ↔
    s.cop0.sr.getLsbD 0 = true ∧ s.cop0.cause.extractLsb' 8 8 &&& s.cop0.sr.extractLsb' 8 8 ≠ 0#8 := by
  simp [State.interruptTaken, Sr.iec, Cause.ip, Sr.im]

/-- RAM takes stores unless SR.IsC is set (20_memory.md R240). -/
theorem State.takesStores_ram {s : State} {a : Word} (h : s.regionOf a = .ram) :
    s.takesStores a = !s.cop0.sr.getLsbD 16 := by
  simp [State.takesStores, h, Sr.isC]

theorem State.regionOf_congr {s t : State} (h : t.params = s.params) (a : Word) : t.regionOf a = s.regionOf a := by
  simp only [State.regionOf, h]

/-- Settles O28: the bank is the accessor's result; after a write of SR the next state's tests read the new SR. -/
theorem mtc0WritesCop0Register : Obligations.Mtc0WritesCop0Register := by
  refine ⟨decodesAs_rs 0x04#5 rfl rfl fun w h => by unfold decodeCop0; rw [h]; rfl, fun s rt cr =>
    ⟨checksCop0_of_withCop0 (exec_mtc0 rt cr s), fun hu => ?_⟩⟩
  obtain ⟨t, ht, hstep⟩ := exec_mtc0_usable hu rt cr
  refine ⟨t, ht, hstep, ?_⟩
  rintro rfl
  have hbank : t.cop0 = { s.cop0 with sr := s.x rt } := hstep.bank.trans (Cop0.written_sr ..)
  refine ⟨?_, fun a => ?_, fun a ha => ?_⟩
  · rw [State.interruptTaken_iff, hbank]
  · rw [State.userForbidden, hbank]
  · rw [State.takesStores_ram ((State.regionOf_congr hstep.book.2.2 a).trans ha), hbank]

/-! ### Stopped runs and reset -/

theorem State.act_step_refused {s : State} {r : Refusal} (h : step s = .refused r) :
    s.act .step = { s with status := .refused r } := by simp only [State.act, h, State.mark]
theorem State.act_step_fault {s : State} {f : Fault} (h : step s = .fault f) :
    s.act .step = { s with status := .faulted f } := by simp only [State.act, h, State.mark]

/-- A refused run answers its reason again (10_state.md R115). -/
theorem step_of_refused {s : State} {r : Refusal} (h : s.status = .refused r) : step s = .refused r := by
  simp only [step, h]

/-- A faulted run answers its reason again (10_state.md R115). -/
theorem step_of_faulted {s : State} {f : Fault} (h : s.status = .faulted f) : step s = .fault f := by
  simp only [step, h]

/-- Marking a state with the status it already has changes nothing. -/
theorem State.mark_status_self {s : State} {x : RunStatus} (h : s.status = x) : { s with status := x } = s := by
  subst h; rfl

/-- Settles O47: a stopped state marks itself with the status it already has. -/
theorem stoppedStatesHaveNoStep : Obligations.StoppedStatesHaveNoStep := by
  intro s
  refine ⟨fun r h => ⟨step_of_refused h, ?_⟩, fun f h => ⟨step_of_faulted h, ?_⟩, fun _ => State.act_step_refused,
    fun _ => State.act_step_fault, rfl⟩
  · exact (State.act_step_refused (step_of_refused h)).trans (State.mark_status_self h)
  · exact (State.act_step_fault (step_of_faulted h)).trans (State.mark_status_self h)

/-- The bits of CAUSE that Reset keeps are the host's interrupt lines (60_exceptions.md R1041). -/
theorem extract_lines_and_mask (c : Word) : (c &&& 0xFC00#32).extractLsb' 10 6 = c.extractLsb' 10 6 := by
  apply BitVec.eq_of_getLsbD_eq
  intro i hi
  simp only [BitVec.getLsbD_extractLsb']
  interval_cases i <;> simp

/-- Settles O56: every value but the interrupt lines is written out in the reset action. -/
theorem resetSetsTheSpecifiedState : Obligations.ResetSetsTheSpecifiedState := fun s =>
  ⟨rfl, State.reset_inv.zero, rfl, rfl, rfl, rfl, rfl, rfl, rfl, extract_lines_and_mask s.cop0.cause, rfl, rfl⟩

/-- Settles O57. -/
theorem resetStateIsKernelModeAtTheVector : Obligations.ResetStateIsKernelModeAtTheVector := by
  unfold Obligations.ResetStateIsKernelModeAtTheVector
  decide

end Sys2Proof.Machine
end

section
/-! PROOFS. The memory family (20_memory.md): which addresses share a byte, a store and the load that reads it back, the
isolated cache, and what no step changes. -/

namespace Sys2Proof.Machine

/-! ### Addresses that share a byte (20_memory.md R210, R221) -/

theorem phys_congr {a b : Word} (h : a.toNat % 2 ^ 29 = b.toNat % 2 ^ 29) : phys a = phys b := by
  rw [phys_eq, phys_eq, h]

theorem le_of_route_scratch {c : Params} {p : Nat} (h : route c p = .scratch) : c.scratchBase ≤ p := by
  unfold route at h
  split_ifs at h with hs
  exact hs.1

theorem le_of_route_bios {c : Params} {p : Nat} (h : route c p = .bios) : Config.biosBase ≤ p := by
  unfold route at h
  split_ifs at h with _ _ hb
  exact hb.1

/-- Only RAM mirrors: two physical addresses land at one place exactly if they are equal or both RAM, a multiple of its
size apart. -/
theorem placeOf_eq_iff {c : Params} {p q : Nat} : placeOf c p = placeOf c q ↔
    p = q ∨ (route c p = .ram ∧ route c q = .ram ∧ p % Config.ramSize = q % Config.ramSize) := by
  constructor
  · intro h
    have hr : route c p = route c q := by rw [← placeOf_region, ← placeOf_region, h]
    cases hq : route c q <;> rw [hq] at hr <;> simp only [placeOf, hr, hq, Place.mk.injEq, true_and] at h
    case scratch =>
      have hp := le_of_route_scratch hr
      have hq := le_of_route_scratch hq
      exact .inl (by omega)
    case ram => exact .inr ⟨hr, rfl, h⟩
    case bios =>
      have hp := le_of_route_bios hr
      have hq := le_of_route_bios hq
      exact .inl (by omega)
    case device => exact .inl h
  · rintro (rfl | ⟨hp, hq, h⟩)
    · rfl
    · simp only [placeOf, hp, hq, h]

/-- Aligned words whose first bytes share a place share every byte (20_memory.md R224). -/
theorem placeOf_add_congr {c : Params} (hc : c.wf) {p q k : Nat} (hp : p % 4 = 0) (hq : q % 4 = 0) (hk : k < 4)
    (h : placeOf c p = placeOf c q) : placeOf c (p + k) = placeOf c (q + k) := by
  rcases placeOf_eq_iff.mp h with rfl | ⟨hpr, hqr, hm⟩
  · rfl
  · refine placeOf_eq_iff.mpr (.inr ⟨(route_aligned hc hp hk).trans hpr, (route_aligned hc hq hk).trans hqr, ?_⟩)
    exact Nat.ModEq.add_right k hm

theorem State.byteAt_of_sameByte {s : State} {a b : Word} (h : s.sameByte a b) : s.byteAt a = s.byteAt b :=
  congrArg s.mem.read h

theorem State.memRead_congr_phys (s : State) {a b : Word} (h : phys a = phys b) (w : Width) :
    s.memRead a w = s.memRead b w := by simp only [State.memRead, h]

theorem State.memWrite_congr_phys (s : State) {a b : Word} (h : phys a = phys b) (w : Width) (v : Word) :
    s.memWrite a w v = s.memWrite b w v := by simp only [State.memWrite, h]

theorem State.sameByte_of_phys (s : State) {a b : Word} (h : phys a = phys b) : s.sameByte a b :=
  congrArg (placeOf s.params) h

theorem State.sameByte_of_ram {s : State} {a b : Word} (ha : s.regionOf a = .ram) (hb : s.regionOf b = .ram)
    (h : phys a % Config.ramSize = phys b % Config.ramSize) : s.sameByte a b :=
  placeOf_eq_iff.mpr (.inr ⟨ha, hb, h⟩)

/-- Settles O26: an access sees its address through `phys`, and RAM the physical address through its remainder. -/
theorem segmentsAndMirrorsAlias : Obligations.SegmentsAndMirrorsAlias := by
  refine ⟨fun s a b w v h => ?_, fun s a b ha hb h => ?_⟩
  · have hp := phys_congr h
    exact ⟨State.byteAt_of_sameByte (s.sameByte_of_phys hp), s.memRead_congr_phys hp w, s.memWrite_congr_phys hp w v⟩
  · rw [← phys_eq, ← phys_eq] at h
    have hs : s.sameByte a b := State.sameByte_of_ram ha hb h
    exact ⟨hs, State.byteAt_of_sameByte hs⟩

/-! ### A store and the load that reads it back (20_memory.md R260) -/

/-- An aligned word takes stores as a whole (20_memory.md R224). -/
theorem State.takesStores_aligned {s : State} (hp : s.params.wf) {a : Word} (ha : a.toNat % 4 = 0) {k : Nat} (hk : k < 4) :
    s.takesStores (a + BitVec.ofNat 32 k) = s.takesStores a := by
  have hr : s.regionOf (a + BitVec.ofNat 32 k) = s.regionOf a := by
    unfold State.regionOf
    rw [phys_add (n := 4) (by simp) ha hk]
    exact route_aligned hp (phys_mod_four ha) hk
  simp only [State.takesStores, hr]

/-- Where an aligned word takes stores, it holds the word whose bytes were stored there. -/
theorem StoresBytes.holdsWord {s t : State} {a v : Word} (h : StoresBytes s t a 4 (fun _ => true) (byteOf v))
    (hp : s.params.wf) (ha : a.toNat % 4 = 0) (hs : s.takesStores a = true) : t.holdsWord a v := fun k hk =>
  h.1 k hk rfl ((State.takesStores_aligned hp ha hk).trans hs)

/-- An aligned address that reaches the bytes of an aligned word holds the same word. -/
theorem State.holdsWord_of_sameByte {s : State} (hp : s.params.wf) {a b v : Word} (ha : a.toNat % 4 = 0)
    (hb : b.toNat % 4 = 0) (hs : s.sameByte a b) (h : s.holdsWord b v) : s.holdsWord a v := by
  intro k hk
  rw [← h k hk]
  refine State.byteAt_of_sameByte ?_
  unfold State.sameByte
  rw [phys_add (n := 4) (by simp) ha hk, phys_add (n := 4) (by simp) hb hk]
  exact placeOf_add_congr hp (phys_mod_four ha) (phys_mod_four hb) hk hs

theorem exec_sw (rt rs : Reg) (imm : BitVec 16) (s : State) :
    exec (.sw rt rs imm) s = s.storing .word (s.ea rs imm) (s.x rt) := rfl

theorem exec_lw (rt rs : Reg) (imm : BitVec 16) (s : State) :
    exec (.lw rt rs imm) s = s.loading .word (s.ea rs imm) fun v t => t.completeLoad rt v := rfl

/-- LW of an aligned allowed address makes the word that stands there pending (44_loadstore.md R814). -/
theorem exec_lw_stored {s : State} {rs : Reg} {imm : BitVec 16} {v : Word} (ha : (s.ea rs imm).toNat % 4 = 0)
    (hu : ¬ s.userForbidden (s.ea rs imm)) (h : s.holdsWord (s.ea rs imm) v) (rt : Reg) :
    ∃ t, exec (.lw rt rs imm) s = .next t ∧ LoadStep s t rt v 0 := by
  rw [exec_lw, State.loading_next (isAligned_word_of ha) (State.userBlocked_false hu), State.memRead_word ha h]
  exact s.completeLoad_spec rt v

/-- Settles O25: the stored word stands at its address, so at every address that reaches the same bytes, where LW reads it. -/
theorem loadAfterStoreThroughAlias : Obligations.LoadAfterStoreThroughAlias := by
  rintro s rt rs imm ea hp hm rfl ha hu hs
  obtain ⟨t, ht, hstores, _⟩ :=
    State.storing_spec hp hm (isAligned_word_of ha) (State.userBlocked_false hu) (s.x rt)
  refine ⟨t, (exec_sw rt rs imm s).trans ht, ?_⟩
  rintro rt' rs' imm' ea' rfl ha' hu' hsame
  have hpar : t.params = s.params := hstores.rest.book.2.2
  have hsame' : t.sameByte (t.x rs' + imm'.signExtend 32) (s.x rs + imm.signExtend 32) := by
    unfold State.sameByte; rw [hpar]; exact hsame
  have hword := State.holdsWord_of_sameByte (hpar ▸ hp) ha' ha hsame' (hstores.bytes.holdsWord hp ha hs)
  obtain ⟨u, hu, hload⟩ :=
    exec_lw_stored (s := { t with currentPc := t.pc, pc := t.pc + 4#32 }) ha' hu' hword rt'
  exact ⟨u, hu, hload.regs.1⟩

/-! ### The isolated cache (20_memory.md R240) -/

/-- No step changes the BIOS image (20_memory.md R223). -/
theorem step_bios {s t : State} (h : step s = .next t) : t.mem.bios = s.mem.bios := by
  rcases step_ends h with ⟨e, rfl⟩ | ⟨e, rfl⟩ | ⟨u, e, hu, rfl, _⟩
  · rw [State.takeException_mem]
  · rw [State.takeException_mem, State.afterFetch_mem]
  · rw [State.retire_mem, hu.bios, State.afterFetch_mem]

/-- With the cache isolated as it starts no step changes RAM. -/
theorem step_ram_isolated {s t : State} (hi : Sr.isC s.cop0.sr = true) (h : step s = .next t) :
    t.mem.ram = s.mem.ram := by
  rcases step_ends h with ⟨e, rfl⟩ | ⟨e, rfl⟩ | ⟨u, e, hu, rfl, _⟩
  · rw [State.takeException_mem]
  · rw [State.takeException_mem, State.afterFetch_mem]
  · rw [State.retire_mem, hu.ram (by rwa [State.afterFetch_cop0]), State.afterFetch_mem]

/-- Outside device space a byte write stores its byte, for any parameters: one byte needs no alignment. -/
theorem State.memWrite_byte {s : State} (hm : s.mem.wf) {a : Word} (h : s.regionOf a ≠ .device) (v : Word) :
    (s.memWrite a .byte v).byteAt a = if s.takesStores a then some (byteOf v 0) else s.byteAt a := by
  have hmem : (s.memWrite a .byte v).mem = s.mem.store (Sr.isC s.cop0.sr) (placeOf s.params (phys a)) (byteOf v 0) := by
    unfold State.memWrite
    unfold State.regionOf at h
    split
    case h_4 hd => exact absurd hd h
    all_goals rfl
  unfold State.byteAt
  rw [hmem, State.memWrite_params]
  split
  case isTrue hs => exact Memory.read_store_self hm _ ((stored_placeOf s a).trans hs)
  case isFalse hs =>
    rw [Memory.store_eq_of_not_stored ((stored_placeOf s a).trans (by simpa using hs))]

/-- Settles O24: an isolated RAM address and a BIOS address take no stores, a scratchpad address does. -/
theorem cacheIsolationDropsRamAndBiosWrites : Obligations.CacheIsolationDropsRamAndBiosWrites := by
  refine ⟨fun s t hi h => ⟨step_ram_isolated hi h, step_bios h⟩, fun s a v hi hm => ⟨?_, fun h => ?_, fun h => ?_⟩⟩
  · rintro (h | h)
    · have ht : s.takesStores a = false := by rw [State.takesStores_ram h, hi]; rfl
      rw [State.memWrite_byte hm (by simp [h]), ht]; rfl
    · have ht : s.takesStores a = false := by simp [State.takesStores, h]
      rw [State.memWrite_byte hm (by simp [h]), ht]; rfl
  · have ht : s.takesStores a = true := by simp [State.takesStores, h]
    rw [State.memWrite_byte hm (by simp [h]), ht]; rfl
  · rw [State.memWrite_events, if_pos h]; rfl

/-! ### What no step changes, and the device history (20_memory.md R231, 10_state.md R115) -/

/-- At most n device accesses were made from s to t, recorded in front of the history. -/
def ExtendsHistory (n : Nat) (s t : State) : Prop :=
  ∃ l : List DeviceEvent, l.length ≤ n ∧ t.events = l ++ s.events

theorem extendsHistory_of_eq {s t : State} (h : t.events = s.events) (n : Nat) : ExtendsHistory n s t :=
  ⟨[], Nat.zero_le n, h⟩

theorem extendsHistory_one {s t : State} (h : t.events = s.events ∨ ∃ e, t.events = e :: s.events) :
    ExtendsHistory 1 s t := by
  rcases h with h | ⟨e, h⟩
  · exact extendsHistory_of_eq h 1
  · exact ⟨[e], Nat.le_refl 1, h⟩

theorem ExtendsHistory.trans {m n : Nat} {s t u : State} (h : ExtendsHistory m s t) (h' : ExtendsHistory n t u) :
    ExtendsHistory (n + m) s u := by
  obtain ⟨l, hl, he⟩ := h
  obtain ⟨l', hl', he'⟩ := h'
  refine ⟨l' ++ l, ?_, by rw [he', he, List.append_assoc]⟩
  rw [List.length_append]
  exact Nat.add_le_add hl' hl

/-- A step makes at most two device accesses: its fetch and the access of its instruction. -/
theorem step_extendsHistory {s t : State} (h : step s = .next t) : ExtendsHistory 2 s t := by
  have hfetch : ExtendsHistory 1 s s.afterFetch := extendsHistory_one (s.memRead_events s.pc .word)
  rcases step_ends h with ⟨e, rfl⟩ | ⟨e, rfl⟩ | ⟨u, e, hu, rfl, _⟩
  · exact extendsHistory_of_eq (State.takeException_events ..) 2
  · exact hfetch.trans (extendsHistory_of_eq (State.takeException_events ..) 1)
  · refine hfetch.trans (extendsHistory_one ?_)
    rw [State.retire_events]
    exact hu.events

/-- A step that reaches a next state changes neither the parameters nor the run status. -/
theorem step_params_status {s t : State} (h : step s = .next t) : t.params = s.params ∧ t.status = s.status := by
  rcases step_ends h with ⟨e, rfl⟩ | ⟨e, rfl⟩ | ⟨u, e, hu, rfl, _⟩
  · exact ⟨State.takeException_params .., State.takeException_status ..⟩
  · exact ⟨by simp, by simp⟩
  · obtain ⟨_, _, _, _, _, _, _, hstatus, hparams⟩ := hu.frame
    exact ⟨by simp [hparams], by simp [hstatus]⟩

/-- Settles O52. -/
theorem stepsKeepBiosAndExtendHistory : Obligations.StepsKeepBiosAndExtendHistory := by
  intro s t h
  obtain ⟨hparams, hstatus⟩ := step_params_status h
  exact ⟨step_bios h, hparams, hstatus, step_extendsHistory h⟩

end Sys2Proof.Machine
end

section
/-! PROOFS. The encoding family (30_encoding.md): every encoded instruction is read back, every word lies in one row of the
opcode table, and what the reserved and the unnamed encodings do. -/

namespace Sys2Proof.Machine

/-! ### Register fields of each format (30_encoding.md R303-R306) -/

theorem rsField_encR (rs rt rd : Reg) (sa : BitVec 5) (funct : BitVec 6) : rsField (encR rs rt rd sa funct) = rs :=
  congrArg BitVec.toFin (rsBits_encR ..)
theorem rtField_encR (rs rt rd : Reg) (sa : BitVec 5) (funct : BitVec 6) : rtField (encR rs rt rd sa funct) = rt :=
  congrArg BitVec.toFin (rtBits_encR ..)
theorem rdField_encR (rs rt rd : Reg) (sa : BitVec 5) (funct : BitVec 6) : rdField (encR rs rt rd sa funct) = rd :=
  congrArg BitVec.toFin (rdBits_encR ..)
theorem rsField_encI (op : BitVec 6) (rs rt : Reg) (imm : BitVec 16) : rsField (encI op rs rt imm) = rs :=
  congrArg BitVec.toFin (rsBits_encI ..)
theorem rtField_encI (op : BitVec 6) (rs rt : Reg) (imm : BitVec 16) : rtField (encI op rs rt imm) = rt :=
  congrArg BitVec.toFin (rtBits_encI ..)
theorem rtField_encCop (rs rt rd : Reg) : rtField (encCop rs rt rd) = rt := congrArg BitVec.toFin (rtBits_encCop ..)
theorem rdField_encCop (rs rt rd : Reg) : rdField (encCop rs rt rd) = rd := congrArg BitVec.toFin (rdBits_encCop ..)

/-! ### Decoding a word of each format

A word of a format decodes to `i` if every word with that format's fields does. -/

section

variable {rs rt rd : Reg} {sa : BitVec 5} {op funct : BitVec 6} {imm : BitVec 16} {target : BitVec 26} {code : BitVec 20}
  {i : Instr}

theorem decode_encR (h : ∀ w, functField w = funct → rsField w = rs → rtField w = rt → rdField w = rd →
    saField w = sa → decodeSpecial w = i) : decode (encR rs rt rd sa funct) = i :=
  (decode_special (opField_encR ..)).trans
    (h _ (functField_encR ..) (rsField_encR ..) (rtField_encR ..) (rdField_encR ..) (saField_encR ..))

theorem decode_encCode (h : ∀ w, functField w = funct → codeField w = code → decodeSpecial w = i) :
    decode (encCode code funct) = i :=
  (decode_special (opField_encCode ..)).trans (h _ (functField_encCode ..) (codeField_encCode ..))

theorem decode_encI (h : ∀ w, opField w = op → rsField w = rs → rtField w = rt → immField w = imm → decode w = i) :
    decode (encI op rs rt imm) = i :=
  h _ (opField_encI ..) (rsField_encI ..) (rtField_encI ..) (immField_encI ..)

theorem decode_encI_bcondZ (h : ∀ w, rtBits w = regBits rt → rsField w = rs → immField w = imm → decodeBcondZ w = i) :
    decode (encI 0x01#6 rs rt imm) = i :=
  (decode_bcondZ (opField_encI ..)).trans (h _ (rtBits_encI ..) (rsField_encI ..) (immField_encI ..))

theorem decode_encI_cop0 (h : ∀ w, rsBits w = regBits rs → rtBits w = regBits rt → immField w = imm → decodeCop0 w = i) :
    decode (encI 0x10#6 rs rt imm) = i :=
  (decode_cop0 (opField_encI ..)).trans (h _ (rsBits_encI ..) (rtBits_encI ..) (immField_encI ..))

theorem decode_encJ (h : ∀ w, opField w = op → targetField w = target → decode w = i) : decode (encJ op target) = i :=
  h _ (opField_encJ ..) (targetField_encJ ..)

theorem decode_encCop (h : ∀ w, rsBits w = regBits rs → rtField w = rt → rdField w = rd → decodeCop0 w = i) :
    decode (encCop rs rt rd) = i :=
  (decode_cop0 (opField_encCop ..)).trans (h _ (rsBits_encCop ..) (rtField_encCop ..) (rdField_encCop ..))

theorem decode_encCmd : decode (encCmd funct) = if funct = 0x10#6 then .rfe else .cop0Generic funct := by
  rw [decode_cop0 (opField_encCmd _), decodeCop0_command (by rw [rsBits_encCmd]; rfl), functField_encCmd]

end

/-- The unnamed rs = 0x08 words (30_encoding.md R341). -/
theorem decodeCop0_rs08Other {w : Word} (hs : rsBits w = 0x08#5) (h0 : rtBits w ≠ 0#5) (h1 : rtBits w ≠ 1#5) :
    decodeCop0 w = .cop0Rs08Other (rtBits w) := by
  unfold decodeCop0
  rw [hs]
  exact (if_neg h0).trans (if_neg h1)

theorem decode_encode_rs08Other {cond : BitVec 5} (h0 : cond ≠ 0#5) (h1 : cond ≠ 1#5) :
    decode (encCop 8 cond.toFin 0) = .cop0Rs08Other cond := by
  have hrs : rsBits (encCop 8 cond.toFin 0) = 0x08#5 := rsBits_encCop ..
  have hrt : rtBits (encCop 8 cond.toFin 0) = cond := rtBits_encCop ..
  rw [decode_cop0 (opField_encCop ..), decodeCop0_rs08Other hrs (by rwa [hrt]) (by rwa [hrt]), hrt]

/-! ### Decode after encode -/

/-- The decoder reads every well-formed instruction back from its word: format by format, the fields that select the
instruction fix the decoder's arm, and the operands are the other fields. -/
theorem decode_encode {i : Instr} (h : i.wf = true) : decode (encode i) = i := by
  cases i
  case cop0Generic funct => exact decode_encCmd.trans (if_neg (by simpa [Instr.wf] using h))
  case cop0Rs08Other cond =>
    obtain ⟨h0, h1⟩ : cond ≠ 0#5 ∧ cond ≠ 1#5 := by simpa [Instr.wf] using h
    exact decode_encode_rs08Other h0 h1
  case rfe => exact decode_encCmd
  case j | jal => exact decode_encJ fun w ho _ => by subst_vars; unfold decode; rw [ho]; rfl
  case syscall | brk => exact decode_encCode fun w hf _ => by subst_vars; unfold decodeSpecial; rw [hf]; rfl
  case bc0f | bc0t => exact decode_encI_cop0 fun w hs ht _ => by subst_vars; unfold decodeCop0; rw [hs, ht]; rfl
  case mfc0 | mtc0 | cfc0 | ctc0 | cop0Rs01 | cop0Rs03 | cop0Rs05 | cop0Rs07 | cop0Rs09 | cop0Rs0A | cop0Rs0B
      | cop0Rs0C | cop0Rs0D | cop0Rs0E | cop0Rs0F =>
    exact decode_encCop fun w hs _ _ => by subst_vars; unfold decodeCop0; rw [hs]; rfl
  case bltz | bgez | bltzal | bgezal | bcondzRt02 | bcondzRt03 | bcondzRt04 | bcondzRt05 | bcondzRt06 | bcondzRt07
      | bcondzRt08 | bcondzRt09 | bcondzRt0A | bcondzRt0B | bcondzRt0C | bcondzRt0D | bcondzRt0E | bcondzRt0F
      | bcondzRt12 | bcondzRt13 | bcondzRt14 | bcondzRt15 | bcondzRt16 | bcondzRt17 | bcondzRt18 | bcondzRt19
      | bcondzRt1A | bcondzRt1B | bcondzRt1C | bcondzRt1D | bcondzRt1E | bcondzRt1F =>
    exact decode_encI_bcondZ fun w ht _ _ => by subst_vars; unfold decodeBcondZ; rw [ht]; rfl
  case addi | addiu | slti | sltiu | andi | ori | xori | lui | beq | bne | blez | bgtz | lb | lbu | lh | lhu | lw | lwl
      | lwr | sb | sh | sw | swl | swr | lwc0 | swc0 | cop1 | cop2 | cop3 | lwc1 | lwc2 | lwc3 | swc1 | swc2 | swc3
      | reservedOp14 | reservedOp15 | reservedOp16 | reservedOp17 | reservedOp18 | reservedOp19 | reservedOp1A
      | reservedOp1B | reservedOp1C | reservedOp1D | reservedOp1E | reservedOp1F | reservedOp27 | reservedOp2C
      | reservedOp2D | reservedOp2F | reservedOp34 | reservedOp35 | reservedOp36 | reservedOp37 | reservedOp3C
      | reservedOp3D | reservedOp3E | reservedOp3F =>
    exact decode_encI fun w ho _ _ _ => by subst_vars; unfold decode; rw [ho]; rfl
  all_goals exact decode_encR fun w hf _ _ _ _ => by subst_vars; unfold decodeSpecial; rw [hf]; rfl

/-- The four bytes of a word, lowest address first, make up the word (20_memory.md R200, R201). -/
theorem wordOfBytes_extract (w : Word) :
    wordOfBytes (w.extractLsb' 0 8) (w.extractLsb' 8 8) (w.extractLsb' 16 8) (w.extractLsb' 24 8) = w := by
  apply BitVec.eq_of_getLsbD_eq
  intro i hi
  simp only [wordOfBytes, BitVec.getLsbD_append, BitVec.getLsbD_extractLsb']
  interval_cases i <;> simp

theorem decodeBytes_tableBytes (w : Word) (rest : List Byte) :
    decodeBytes (tableBytes 32 w.toNat ++ rest) = .ok (decode w, rest) := by
  have hw : BitVec.ofNat 32 (w.toNat % 2 ^ 32) = w := by
    rw [Nat.mod_eq_of_lt w.isLt, BitVec.ofNat_toNat, BitVec.setWidth_eq]
  simp only [tableBytes, hw, List.cons_append, List.nil_append, decodeBytes, wordOfBytes_extract]

theorem decodeTableWord_toNat (w : Word) : decodeTableWord 32 w.toNat = some (decode w) := by
  have h := decodeBytes_tableBytes w []
  rw [List.append_nil] at h
  simp only [decodeTableWord, h]

/-- Settles O53: by the decoder's reading of each format, and of a word's four bytes. -/
theorem decodeReadsBackEveryEncodedInstruction : Obligations.DecodeReadsBackEveryEncodedInstruction := by
  intro i h
  refine ⟨decode_encode h, ?_, fun rest => ?_⟩
  · rw [decodeTableWord_toNat, decode_encode h]
  · rw [decodeBytes_tableBytes, decode_encode h]

/-! ### The row of a decoded word (30_encoding.md R320) -/

theorem OpcodeRow.covers_iff {r : OpcodeRow} {w : Word} :
    r.covers w = true ↔ w &&& r.mask = r.value ∧ ∀ p ∈ r.butNot, w &&& p.1 ≠ p.2 := by
  simp [OpcodeRow.covers]

/-- The instruction is well-formed, and its row, with no other row inside it, is the words that agree with `w` under
`m`. -/
structure LiesInRow (i : Instr) (m w : Word) : Prop where
  wf : i.wf = true
  mask : i.row.mask = m
  value : i.row.value = w &&& m
  butNot : i.row.butNot = []

theorem LiesInRow.covers {i : Instr} {m w : Word} (h : LiesInRow i m w) : i.row.covers w = true := by
  simp [OpcodeRow.covers_iff, h.mask, h.value, h.butNot]

theorem exists_eq_ofFin {n : Nat} (b : BitVec n) : ∃ k : Fin (2 ^ n), b = BitVec.ofFin k := ⟨b.toFin, rfl⟩

theorem decode_liesInRow {w : Word} (h0 : opField w ≠ 0x00#6) (h1 : opField w ≠ 0x01#6) (h10 : opField w ≠ 0x10#6) :
    LiesInRow (decode w) 0xFC000000#32 w := by
  have hv := and_opMask w
  obtain ⟨k, hk⟩ := exists_eq_ofFin (opField w)
  rw [hk] at h0 h1 h10 hv
  unfold decode
  rw [hk]
  fin_cases k
  -- The goals stand in the order of `k`: opcode 0x10 is the seventeenth, 0x01 the second, 0x00 the first.
  on_goal 17 => exact absurd rfl h10
  on_goal 2 => exact absurd rfl h1
  on_goal 1 => exact absurd rfl h0
  all_goals exact ⟨rfl, rfl, hv.symm, rfl⟩

theorem decodeSpecial_liesInRow {w : Word} (ho : opField w = 0x00#6) : LiesInRow (decodeSpecial w) 0xFC00003F#32 w := by
  have hv := and_functMask w
  obtain ⟨k, hk⟩ := exists_eq_ofFin (functField w)
  rw [ho, hk] at hv
  unfold decodeSpecial
  rw [hk]
  fin_cases k
  all_goals exact ⟨rfl, rfl, hv.symm, rfl⟩

theorem decodeBcondZ_liesInRow {w : Word} (ho : opField w = 0x01#6) : LiesInRow (decodeBcondZ w) 0xFC1F0000#32 w := by
  have hv := and_rtMask w
  obtain ⟨k, hk⟩ := exists_eq_ofFin (rtBits w)
  rw [ho, hk] at hv
  unfold decodeBcondZ
  rw [hk]
  fin_cases k
  all_goals exact ⟨rfl, rfl, hv.symm, rfl⟩

theorem exists_fin16_of_top_zero : ∀ b : BitVec 5, b.extractLsb' 4 1 = 0#1 → ∃ k : Fin 16, b = BitVec.ofNat 5 k := by decide

/-- The COP0 words with rs[4] = 0 but for rs = 0x08: rs selects the row. -/
theorem decodeCop0_liesInRow {w : Word} (ho : opField w = 0x10#6) (h4 : (rsBits w).extractLsb' 4 1 = 0#1)
    (h8 : rsBits w ≠ 0x08#5) : LiesInRow (decodeCop0 w) 0xFFE00000#32 w := by
  have hv := and_rsMask w
  obtain ⟨k, hk⟩ := exists_fin16_of_top_zero _ h4
  rw [hk] at h8
  rw [ho, hk] at hv
  unfold decodeCop0
  rw [hk]
  fin_cases k
  -- The goals stand in the order of `k`: rs = 0x08 is the ninth.
  on_goal 9 => exact absurd rfl h8
  all_goals exact ⟨rfl, rfl, hv.symm, rfl⟩

/-- The COP0 words with rs = 0x08: BC0F, BC0T, and the unnamed rest, whose row leaves those two out. -/
theorem decodeCop0_rs08_covers {w : Word} (ho : opField w = 0x10#6) (hs : rsBits w = 0x08#5) :
    (decodeCop0 w).wf = true ∧ (decodeCop0 w).row.covers w = true := by
  have hv := and_rsRtMask w
  rw [ho, hs] at hv
  by_cases h0 : rtBits w = 0#5
  · have hd : decodeCop0 w = .bc0f (immField w) := by unfold decodeCop0; rw [hs]; exact if_pos h0
    rw [h0] at hv
    rw [hd]
    exact ⟨rfl, LiesInRow.covers ⟨rfl, rfl, hv.symm, rfl⟩⟩
  by_cases h1 : rtBits w = 1#5
  · have hd : decodeCop0 w = .bc0t (immField w) := by
      unfold decodeCop0; rw [hs]; exact (if_neg h0).trans (if_pos h1)
    rw [h1] at hv
    rw [hd]
    exact ⟨rfl, LiesInRow.covers ⟨rfl, rfl, hv.symm, rfl⟩⟩
  · have hne : ∀ v : Word, rtBits v ≠ rtBits w → w &&& 0xFFFF0000#32 ≠ v := fun v hne h =>
      hne (by rw [← h, rtBits_and_rsRtMask])
    have hm : w &&& 0xFFE00000#32 = 0x41000000#32 := by rw [and_rsMask, ho, hs]; rfl
    have hne0 : w &&& 0xFFFF0000#32 ≠ 0x41000000#32 := hne _ (Ne.symm h0)
    have hne1 : w &&& 0xFFFF0000#32 ≠ 0x41010000#32 := hne _ (Ne.symm h1)
    rw [decodeCop0_rs08Other hs h0 h1]
    exact ⟨by simp [Instr.wf, h0, h1],
      OpcodeRow.covers_iff.2 ⟨hm, List.forall_mem_cons.2 ⟨hne0, List.forall_mem_singleton.2 hne1⟩⟩⟩

/-- The COP0 commands: RFE, and the generic rest, whose row leaves RFE out. -/
theorem decodeCop0_command_covers {w : Word} (ho : opField w = 0x10#6) (h4 : (rsBits w).extractLsb' 4 1 = 1#1) :
    (decodeCop0 w).wf = true ∧ (decodeCop0 w).row.covers w = true := by
  rw [decodeCop0_command h4]
  split_ifs with hf
  · have hm : w &&& 0xFE00003F#32 = 0x42000010#32 := by rw [and_cmdFunctMask, ho, h4, hf]; rfl
    exact ⟨rfl, LiesInRow.covers ⟨rfl, rfl, hm.symm, rfl⟩⟩
  · have hm : w &&& 0xFE000000#32 = 0x42000000#32 := by rw [and_cmdMask, ho, h4]; rfl
    have hne : w &&& 0xFE00003F#32 ≠ 0x42000010#32 := fun h => hf (by rw [← functField_and_cmdFunctMask, h]; rfl)
    exact ⟨by simp [Instr.wf, hf], OpcodeRow.covers_iff.2 ⟨hm, List.forall_mem_singleton.2 hne⟩⟩

theorem decode_wf_covers (w : Word) : (decode w).wf = true ∧ (decode w).row.covers w = true := by
  by_cases h0 : opField w = 0x00#6
  · rw [decode_special h0]
    exact ⟨(decodeSpecial_liesInRow h0).wf, (decodeSpecial_liesInRow h0).covers⟩
  by_cases h1 : opField w = 0x01#6
  · rw [decode_bcondZ h1]
    exact ⟨(decodeBcondZ_liesInRow h1).wf, (decodeBcondZ_liesInRow h1).covers⟩
  by_cases h10 : opField w = 0x10#6
  · rw [decode_cop0 h10]
    rcases BitVec.eq_zero_or_eq_one ((rsBits w).extractLsb' 4 1) with h4 | h4
    · by_cases h8 : rsBits w = 0x08#5
      · exact decodeCop0_rs08_covers h10 h8
      · exact ⟨(decodeCop0_liesInRow h10 h4 h8).wf, (decodeCop0_liesInRow h10 h4 h8).covers⟩
    · exact decodeCop0_command_covers h10 h4
  · exact ⟨(decode_liesInRow h0 h1 h10).wf, (decode_liesInRow h0 h1 h10).covers⟩

/-! ### A row that covers a word is the row of the word's instruction

One lemma for each mask of the table: the fields under the mask fix the decoder's arm. -/

section

variable {v w : Word} {r : OpcodeRow}

theorem row_eq_of_opMask (h : w &&& 0xFC000000#32 = v) (hd : ∀ u, opField u = opField v → (decode u).row = r) :
    r = (decode w).row :=
  (hd w (by rw [← h, opField_and_opMask])).symm

theorem row_eq_of_functMask (h : w &&& 0xFC00003F#32 = v) (ho : opField v = 0x00#6)
    (hd : ∀ u, functField u = functField v → (decodeSpecial u).row = r) : r = (decode w).row := by
  rw [decode_special (by rw [← opField_and_functMask, h, ho])]
  exact (hd w (by rw [← h, functField_and_functMask])).symm

theorem row_eq_of_rtMask (h : w &&& 0xFC1F0000#32 = v) (ho : opField v = 0x01#6)
    (hd : ∀ u, rtBits u = rtBits v → (decodeBcondZ u).row = r) : r = (decode w).row := by
  rw [decode_bcondZ (by rw [← opField_and_rtMask, h, ho])]
  exact (hd w (by rw [← h, rtBits_and_rtMask])).symm

theorem row_eq_of_rsMask (h : w &&& 0xFFE00000#32 = v) (ho : opField v = 0x10#6)
    (hd : ∀ u, rsBits u = rsBits v → (decodeCop0 u).row = r) : r = (decode w).row := by
  rw [decode_cop0 (by rw [← opField_and_rsMask, h, ho])]
  exact (hd w (by rw [← h, rsBits_and_rsMask])).symm

theorem row_eq_of_rsRtMask (h : w &&& 0xFFFF0000#32 = v) (ho : opField v = 0x10#6)
    (hd : ∀ u, rsBits u = rsBits v → rtBits u = rtBits v → (decodeCop0 u).row = r) : r = (decode w).row := by
  rw [decode_cop0 (by rw [← opField_and_rsRtMask, h, ho])]
  exact (hd w (by rw [← h, rsBits_and_rsRtMask]) (by rw [← h, rtBits_and_rsRtMask])).symm

end

theorem decode_of_rfe_masked {w : Word} (h : w &&& 0xFE00003F#32 = 0x42000010#32) : decode w = .rfe := by
  have ho : opField w = 0x10#6 := by rw [← opField_and_cmdFunctMask, h]; rfl
  have h4 : (rsBits w).extractLsb' 4 1 = 1#1 := by rw [← rsTop_and_cmdFunctMask, h]; rfl
  rw [decode_cop0 ho, decodeCop0_command h4]
  exact if_pos (by rw [← functField_and_cmdFunctMask, h]; rfl)

theorem decode_of_cmd_masked {w : Word} (h : w &&& 0xFE000000#32 = 0x42000000#32)
    (hne : w &&& 0xFE00003F#32 ≠ 0x42000010#32) : decode w = .cop0Generic (functField w) := by
  have ho : opField w = 0x10#6 := by rw [← opField_and_cmdMask, h]; rfl
  have h4 : (rsBits w).extractLsb' 4 1 = 1#1 := by rw [← rsTop_and_cmdMask, h]; rfl
  rw [decode_cop0 ho, decodeCop0_command h4]
  exact if_neg fun hf => hne (by rw [and_cmdFunctMask, ho, h4, hf]; rfl)

theorem decode_of_rs08_masked {w : Word} (h : w &&& 0xFFE00000#32 = 0x41000000#32)
    (hne0 : w &&& 0xFFFF0000#32 ≠ 0x41000000#32) (hne1 : w &&& 0xFFFF0000#32 ≠ 0x41010000#32) :
    decode w = .cop0Rs08Other (rtBits w) := by
  have ho : opField w = 0x10#6 := by rw [← opField_and_rsMask, h]; rfl
  have hs : rsBits w = 0x08#5 := by rw [← rsBits_and_rsMask, h]; rfl
  rw [decode_cop0 ho]
  exact decodeCop0_rs08Other hs (fun h0 => hne0 (by rw [and_rsRtMask, ho, hs, h0]; rfl))
    (fun h1 => hne1 (by rw [and_rsRtMask, ho, hs, h1]; rfl))

/-- An instruction whose row covers a word has the row of the word's instruction: mask by mask. -/
theorem row_eq_of_covers {i : Instr} {w : Word} (h : i.row.covers w = true) : i.row = (decode w).row := by
  obtain ⟨hm, hb⟩ := OpcodeRow.covers_iff.1 h
  cases i
  all_goals
    delta Instr.row at hm hb ⊢
    dsimp only at hm hb ⊢
  case rfe => exact (congrArg Instr.row (decode_of_rfe_masked hm)).symm
  case cop0Generic =>
    have hne := hb _ List.mem_cons_self
    exact (congrArg Instr.row (decode_of_cmd_masked hm hne)).symm
  case cop0Rs08Other =>
    have hne0 := hb _ List.mem_cons_self
    have hne1 := hb _ (List.mem_cons_of_mem _ List.mem_cons_self)
    exact (congrArg Instr.row (decode_of_rs08_masked hm hne0 hne1)).symm
  case bc0f | bc0t => exact row_eq_of_rsRtMask hm rfl fun u hs ht => by unfold decodeCop0; rw [hs, ht]; rfl
  case mfc0 | mtc0 | cfc0 | ctc0 | cop0Rs01 | cop0Rs03 | cop0Rs05 | cop0Rs07 | cop0Rs09 | cop0Rs0A | cop0Rs0B
      | cop0Rs0C | cop0Rs0D | cop0Rs0E | cop0Rs0F =>
    exact row_eq_of_rsMask hm rfl fun u hs => by unfold decodeCop0; rw [hs]; rfl
  case bltz | bgez | bltzal | bgezal | bcondzRt02 | bcondzRt03 | bcondzRt04 | bcondzRt05 | bcondzRt06 | bcondzRt07
      | bcondzRt08 | bcondzRt09 | bcondzRt0A | bcondzRt0B | bcondzRt0C | bcondzRt0D | bcondzRt0E | bcondzRt0F
      | bcondzRt12 | bcondzRt13 | bcondzRt14 | bcondzRt15 | bcondzRt16 | bcondzRt17 | bcondzRt18 | bcondzRt19
      | bcondzRt1A | bcondzRt1B | bcondzRt1C | bcondzRt1D | bcondzRt1E | bcondzRt1F =>
    exact row_eq_of_rtMask hm rfl fun u ht => by unfold decodeBcondZ; rw [ht]; rfl
  case j | jal | addi | addiu | slti | sltiu | andi | ori | xori | lui | beq | bne | blez | bgtz | lb | lbu | lh | lhu
      | lw | lwl | lwr | sb | sh | sw | swl | swr | lwc0 | swc0 | cop1 | cop2 | cop3 | lwc1 | lwc2 | lwc3 | swc1 | swc2
      | swc3 | reservedOp14 | reservedOp15 | reservedOp16 | reservedOp17 | reservedOp18 | reservedOp19 | reservedOp1A
      | reservedOp1B | reservedOp1C | reservedOp1D | reservedOp1E | reservedOp1F | reservedOp27 | reservedOp2C
      | reservedOp2D | reservedOp2F | reservedOp34 | reservedOp35 | reservedOp36 | reservedOp37 | reservedOp3C
      | reservedOp3D | reservedOp3E | reservedOp3F =>
    exact row_eq_of_opMask hm fun u ho => by unfold decode; rw [ho]; rfl
  all_goals exact row_eq_of_functMask hm rfl fun u hf => by unfold decodeSpecial; rw [hf]; rfl

/-- Settles O54: the decoder's arms lie in their rows, and a row fixes the decoder's arm. -/
theorem everyWordLiesInExactlyItsRow : Obligations.EveryWordLiesInExactlyItsRow := fun w =>
  ⟨(decode_wf_covers w).1, (decode_wf_covers w).2, fun _ h => row_eq_of_covers h⟩

/-! ### The reserved encodings (30_encoding.md R340) -/

theorem isReserved_decodeBcondZ (w : Word) : isReserved (decodeBcondZ w) = false := by
  unfold decodeBcondZ; split <;> rfl

theorem isReserved_decodeCop0 (w : Word) : isReserved (decodeCop0 w) = false := by
  unfold decodeCop0
  split
  -- The arms of rs = 0x08 and of the commands test one more field.
  case h_9 | h_17 => split_ifs <;> rfl
  all_goals rfl

theorem isReserved_decode (w : Word) : isReserved (decode w) = reservedWord w := by
  obtain ⟨k, hk⟩ := exists_eq_ofFin (opField w)
  unfold decode reservedWord
  rw [hk]
  fin_cases k
  -- The goals stand in the order of `k`: opcode 0x10 is the seventeenth, 0x01 the second, 0x00 the first.
  on_goal 17 => exact isReserved_decodeCop0 w
  on_goal 2 => exact isReserved_decodeBcondZ w
  on_goal 1 =>
    obtain ⟨j, hj⟩ := exists_eq_ofFin (functField w)
    show isReserved (decodeSpecial w) = _
    unfold decodeSpecial
    rw [hj]
    fin_cases j
    all_goals rfl
  all_goals rfl

/-- The reserved instructions share one meaning (45_system_cop.md R940). -/
theorem exec_of_isReserved {i : Instr} (h : isReserved i = true) (s : State) : exec i s = s.raise .ri := by
  cases i
  all_goals cases h
  all_goals rfl

/-- Settles O34: the decoder's arms field by field, and the one meaning the reserved instructions share. -/
theorem reservedWordsRaiseRI : Obligations.ReservedWordsRaiseRI :=
  ⟨isReserved_decode, fun _ s h => ⟨_, exec_of_isReserved h s, s.takeException_spec .ri s.currentPc, rfl⟩⟩

/-! ### The COP0 encodings the source does not name (30_encoding.md R341) -/

theorem exec_of_mem_unnamedCop0Rs (s : State) : ∀ i ∈ unnamedCop0Rs, exec i s = s.unnamedCop0 := by
  simp only [unnamedCop0Rs, List.forall_mem_cons]
  exact ⟨rfl, rfl, rfl, rfl, rfl, rfl, rfl, rfl, rfl, rfl, rfl, List.forall_mem_nil _⟩

theorem exec_cop0Rs08Other (cond : BitVec 5) (s : State) : exec (.cop0Rs08Other cond) s = s.unnamedCop0 := rfl

theorem State.unnamedCop0_usable {s : State} (h : s.cop0Usable) : s.unnamedCop0 = .refused .unnamedCop0Encoding :=
  State.withCop0_usable (State.cop0Blocked_false h) _

theorem decodeCop0_mem_unnamedCop0Rs {w : Word} (h : rsBits w ∈ [0x01#5, 0x03#5, 0x05#5, 0x07#5, 0x09#5, 0x0A#5, 0x0B#5,
    0x0C#5, 0x0D#5, 0x0E#5, 0x0F#5]) : decodeCop0 w ∈ unnamedCop0Rs := by
  unfold decodeCop0
  simp only [List.mem_cons, List.not_mem_nil, or_false] at h
  rcases h with h | h | h | h | h | h | h | h | h | h | h <;> rw [h] <;> simp [unnamedCop0Rs]

/-- Settles O32: the words decode to the unnamed instructions, which share one meaning. -/
theorem unnamedCop0IsRefused : Obligations.UnnamedCop0IsRefused := by
  refine ⟨fun w s ho hu h => ?_, fun s hu => ⟨fun i hi => ?_, fun cond => ?_⟩⟩
  · rw [decode_cop0 ho]
    rcases h with hrs | ⟨hrs, h0, h1⟩
    · rw [exec_of_mem_unnamedCop0Rs s _ (decodeCop0_mem_unnamedCop0Rs hrs), State.unnamedCop0_usable hu]
    · rw [decodeCop0_rs08Other hrs h0 h1, exec_cop0Rs08Other, State.unnamedCop0_usable hu]
  · rw [exec_of_mem_unnamedCop0Rs s i hi, State.unnamedCop0_usable hu]
  · rw [exec_cop0Rs08Other, State.unnamedCop0_usable hu]

/-- Settles O55: each word is closed, and the decoder is run on it. -/
theorem exampleWordsDecode : Obligations.ExampleWordsDecode := by
  unfold Obligations.ExampleWordsDecode
  decide

end Sys2Proof.Machine
end

section
/-! PROOFS. The cycle family (40_cycle.md): how a step starts, where it ends, and what an instruction may do with the state
its step began in: the branch-slot flag, the HI/LO read age and a pending load. -/

namespace Sys2Proof.Machine

/-! ### The start of a step (40_cycle.md R402-R404) -/

/-- The fetch check in the spec's terms (40_cycle.md R403). -/
theorem State.fetchBlocked_iff (s : State) : s.fetchBlocked = true ↔ s.pc.toNat % 4 ≠ 0 ∨ s.userForbidden s.pc := by
  have ha : isAligned .word s.pc = true ↔ s.pc.toNat % 4 = 0 := ⟨isAligned_word, isAligned_word_of⟩
  rw [State.fetchBlocked, Bool.or_eq_true, State.userBlocked_iff, Bool.not_eq_true', ← Bool.not_eq_true, ha]

/-- A fetch from device space takes the oracle's answer and records the read (20_memory.md R230, R231). -/
theorem State.afterFetch_device {s : State} (h : s.regionOf s.pc = .device) :
    s.fetched = s.deviceAnswer s.pc .word ∧
    s.afterFetch = { s with currentPc := s.pc, pc := s.pc + 4#32, draws := s.draws + 1
                            events := .read (phys s.pc) .word (s.deviceAnswer s.pc .word) :: s.events } := by
  have e := State.memRead_device h .word
  exact ⟨congrArg Prod.fst e, by rw [State.afterFetch, e]; rfl⟩

/-- Settles O39: the test read off SR and CAUSE, and the entry the step then makes before it fetches. -/
theorem enabledInterruptIsTaken : Obligations.EnabledInterruptIsTaken := fun s hs =>
  ⟨s.interruptTaken_iff, fun hi => ⟨_, step_interrupt hs hi, s.takeException_spec .int s.pc, rfl⟩⟩

/-- Settles O40: the fetch check fails, so the step enters AdEL before it fetches. -/
theorem fetchAddressErrors : Obligations.FetchAddressErrors := fun s hs hi hf =>
  ⟨_, step_fetchError hs hi (s.fetchBlocked_iff.mpr hf), s.takeException_spec (.adEL s.pc) s.pc, rfl⟩

/-- Settles O46: the fetch check passes, and the fetch is the word at the pc or the oracle's answer. -/
theorem stepRunsTheDecodedInstruction : Obligations.StepRunsTheDecodedInstruction := by
  intro s hs hi ha hu
  have hf : s.fetchBlocked = false := by
    rw [← Bool.not_eq_true, s.fetchBlocked_iff]
    exact not_or.mpr ⟨not_not.mpr ha, hu⟩
  rw [step_exec hs hi hf, State.nextInstr]
  refine ⟨fun w hw => ?_, fun hd => ?_⟩
  · obtain ⟨hword, hstate⟩ := State.afterFetch_stored (isAligned_word_of ha) hw
    rw [hword, hstate]
  · obtain ⟨hword, hstate⟩ := State.afterFetch_device hd
    rw [hword, hstate]

/-! ### The end of a step (40_cycle.md R410, R412) -/

/-- Settles O49. -/
theorem registerZeroIsZeroAfterEveryStep : Obligations.RegisterZeroIsZeroAfterEveryStep := fun _ t h =>
  ⟨step_gpr_zero h, t.x_zero⟩

/-- Every next state of a step enters an exception or completes an instruction, a branch outside a slot only. -/
theorem step_entersFrom_or_completes {s t : State} (h : step s = .next t) :
    EntersFrom s t ∨ ∃ (u : State) (e : Effect), Middle s.afterFetch u ∧ t = u.retire e ∧
      (e.branch = true → s.slot = false) ∧ (e.jump.isSome = true → e.branch = true) := by
  rcases step_ends h with ⟨e, ht⟩ | ⟨e, ht⟩ | ⟨u, e, hu, ht, _, hslot, hjump⟩
  · exact .inl ⟨s, e, rfl, rfl, ht⟩
  · exact .inl ⟨s.afterFetch, e, s.afterFetch_cop0, s.afterFetch_inDelaySlot, ht⟩
  · exact .inr ⟨u, e, hu, ht, hslot, hjump⟩

/-- An exception entry leaves no branch pending and no slot. -/
theorem EntersFrom.branch {s t : State} (h : EntersFrom s t) : t.bd.pending = false ∧ t.slot = false := by
  obtain ⟨u, e, _, _, rfl⟩ := h
  exact ⟨rfl, rfl⟩

/-- A completed step that makes no jump of its own while a branch is pending goes to the pending target, or stays at the
next word. -/
theorem State.retire_pc_of_no_jump {s : State} {e : Effect} (h : s.bd.pending = true → e.jump = none) :
    (s.retire e).pc = if s.bd.pending then s.bd.target else s.pc := by
  rw [State.retire_pc]
  cases hp : s.bd.pending
  · rfl
  · rw [BranchLatch.after, h hp]

/-- A completed step commits a pending branch. -/
theorem State.retire_commits {s : State} (e : Effect) (h : s.bd.pending = true) : (s.retire e).bd.pending = false := by
  rw [State.retire_bd, h]; rfl

/-- Settles O15: a step enters an exception or completes; with a branch pending it is in a slot, where no instruction that
completes makes a jump. -/
theorem controlFollowsBranchLatch : Obligations.ControlFollowsBranchLatch := by
  intro s t hs h
  rcases step_entersFrom_or_completes h with hx | ⟨u, e, hu, rfl, hslot, hjump⟩
  · obtain ⟨_, _, hpc, _, hepc, _⟩ := hx.spec
    obtain ⟨hpending, hslot⟩ := hx.branch
    exact .inr ⟨hpc, hpending, hslot, hepc⟩
  · obtain ⟨_, hpc, _, _, hbd, _⟩ := hu.frame
    rw [State.afterFetch_pc] at hpc
    rw [State.afterFetch_bd] at hbd
    have hno : u.bd.pending = true → e.jump = none := fun hp => by
      have hin : s.slot = true := hs.slot (hbd ▸ hp)
      cases hj : e.jump with
      | none => rfl
      | some a => exact absurd (hslot (hjump (by rw [hj]; rfl))) (by rw [hin]; decide)
    refine .inl ⟨?_, fun hp => State.retire_commits e (hbd ▸ hp)⟩
    rw [State.retire_pc_of_no_jump hno, hbd, hpc]

/-! ### Another value in the load latch -/

/-- The state with another value in the load latch. -/
def State.withLoadValue (s : State) (v : Word) : State := { s with ld := { s.ld with value := v } }

theorem State.memRead_withLoadValue (s : State) (v a : Word) (w : Width) :
    (s.withLoadValue v).memRead a w = ((s.memRead a w).1, (s.memRead a w).2.withLoadValue v) := by
  unfold State.memRead
  cases h : route s.params (phys a) <;> simp only [State.withLoadValue, h] <;> rfl

theorem State.memWrite_withLoadValue (s : State) (v a : Word) (w : Width) (x : Word) :
    (s.withLoadValue v).memWrite a w x = (s.memWrite a w x).withLoadValue v := by
  unfold State.memWrite
  cases h : route s.params (phys a) <;> simp only [State.withLoadValue, h]

theorem State.memWriteMasked_withLoadValue (s : State) (v a x : Word) (mask : BitVec 4) :
    (s.withLoadValue v).memWriteMasked a x mask = (s.memWriteMasked a x mask).withLoadValue v := by
  unfold State.memWriteMasked
  cases h : route s.params (phys a) <;> simp only [State.withLoadValue, h]

theorem State.cop0Read_withLoadValue (s : State) (v : Word) (i : CopReg) :
    (s.withLoadValue v).cop0Read i = ((s.cop0Read i).1, (s.cop0Read i).2.withLoadValue v) := by
  obtain ⟨i, hi⟩ := i
  interval_cases i <;> rfl

theorem State.cop0Write_withLoadValue (s : State) (v : Word) (i : CopReg) (x : Word) :
    (s.withLoadValue v).cop0Write i x = (s.cop0Write i x).withLoadValue v := by
  obtain ⟨i, hi⟩ := i
  interval_cases i <;> rfl

/-! ### How an instruction ends, whatever value the load latch holds -/

/-- MFHI and MFLO (40_cycle.md R411). -/
def isHiLoRead : Instr → Bool
  | .mfhi _ | .mflo _ => true
  | _ => false

/-- How instruction i ends, run from s and run from s with another value in the load latch: both runs take the same
exception, stop for the same reason (BranchInDelaySlot for a branch or jump in a slot only), or complete; only LWL and LWR
may complete with another effect. -/
inductive EndsAlike (s : State) (v : Word) (i : Instr) :
    Host.Outcome State Fault Refusal → Host.Outcome State Fault Refusal → Prop where
  | raises (e : Exc) : EndsAlike s v i (.next (s.takeException e s.currentPc))
      (.next ((s.withLoadValue v).takeException e s.currentPc))
  | faults (f : Fault) : EndsAlike s v i (.fault f) (.fault f)
  | refuses (r : Refusal) (hslot : r = .branchInDelaySlot → isBranchOrJump i = true ∧ s.slot = true) :
      EndsAlike s v i (.refused r) (.refused r)
  | completes (u : State) (e e' : Effect) (hld : u.ld = s.ld) (hage : u.hiloAge = s.hiloAge)
      (hreads : e.readsHiLo = isHiLoRead i) (heffect : chainsLoads i = false → e' = e) :
      EndsAlike s v i (.next (u.retire e)) (.next ((u.withLoadValue v).retire e'))

section
variable {s : State} {v : Word} {i : Instr}

theorem endsAlike_ite {b : Bool} {o₁ o₂ o₁' o₂' : Host.Outcome State Fault Refusal}
    (h₁ : b = true → EndsAlike s v i o₁ o₁') (h₂ : b = false → EndsAlike s v i o₂ o₂') :
    EndsAlike s v i (if b then o₁ else o₂) (if b then o₁' else o₂') := by
  cases b
  · exact h₂ rfl
  · exact h₁ rfl

theorem endsAlike_complete {u u' : State} {e : Effect} (hu : u' = u.withLoadValue v) (hld : u.ld = s.ld)
    (hage : u.hiloAge = s.hiloAge) (hreads : e.readsHiLo = isHiLoRead i) :
    EndsAlike s v i (u.complete e) (u'.complete e) := by
  subst hu
  exact .completes u e e hld hage hreads fun _ => rfl

theorem endsAlike_completeHiLo {h l : Word} (hreads : isHiLoRead i = false) :
    EndsAlike s v i (s.completeHiLo h l) ((s.withLoadValue v).completeHiLo h l) :=
  endsAlike_ite (fun _ => .faults _) fun _ => endsAlike_complete (u := s.setHiLo h l) rfl rfl rfl hreads.symm

theorem endsAlike_completeBranch {e : Effect} (hb : isBranchOrJump i = true) (hreads : e.readsHiLo = isHiLoRead i) :
    EndsAlike s v i (s.completeBranch e) ((s.withLoadValue v).completeBranch e) :=
  endsAlike_ite (fun hs => .refuses _ fun _ => ⟨hb, hs⟩) fun _ => endsAlike_complete rfl rfl rfl hreads

theorem endsAlike_withCop0 {k k' : Host.Outcome State Fault Refusal} (h : EndsAlike s v i k k') :
    EndsAlike s v i (s.withCop0 k) ((s.withLoadValue v).withCop0 k') :=
  endsAlike_ite (fun _ => .raises _) fun _ => h

theorem endsAlike_cop2 : EndsAlike s v i s.cop2 (s.withLoadValue v).cop2 :=
  endsAlike_ite (fun _ => .refuses _ nofun) fun _ => .raises _

theorem endsAlike_loading {w : Width} {ea : Word} {k k' : Word → State → Host.Outcome State Fault Refusal}
    (hk : ∀ x u, u.ld = s.ld → u.hiloAge = s.hiloAge → EndsAlike s v i (k x u) (k' x (u.withLoadValue v))) :
    EndsAlike s v i (s.loading w ea k) ((s.withLoadValue v).loading w ea k') := by
  unfold State.loading
  rw [State.memRead_withLoadValue]
  exact endsAlike_ite (fun _ => .raises _) fun _ => hk _ _ (by simp) (by simp)

theorem endsAlike_loadingWord {ea : Word} {k k' : Word → State → Host.Outcome State Fault Refusal}
    (hk : ∀ x u, u.ld = s.ld → u.hiloAge = s.hiloAge → EndsAlike s v i (k x u) (k' x (u.withLoadValue v))) :
    EndsAlike s v i (s.loadingWord ea k) ((s.withLoadValue v).loadingWord ea k') := by
  unfold State.loadingWord
  rw [State.memRead_withLoadValue]
  exact endsAlike_ite (fun _ => .raises _) fun _ => hk _ _ (by simp) (by simp)

theorem endsAlike_storing {w : Width} {ea x : Word} (hreads : isHiLoRead i = false) :
    EndsAlike s v i (s.storing w ea x) ((s.withLoadValue v).storing w ea x) :=
  endsAlike_ite (fun _ => .raises _) fun _ =>
    endsAlike_complete (State.memWrite_withLoadValue ..) (by simp) (by simp) hreads.symm

theorem endsAlike_storingMasked {ea x : Word} {mask : BitVec 4} (hreads : isHiLoRead i = false) :
    EndsAlike s v i (s.storingMasked ea x mask) ((s.withLoadValue v).storingMasked ea x mask) :=
  endsAlike_ite (fun _ => .raises _) fun _ =>
    endsAlike_complete (State.memWriteMasked_withLoadValue ..) (by simp) (by simp) hreads.symm

end

theorem exec_swc0 (cr : CopReg) (rs : Reg) (imm : BitVec 16) (s : State) :
    exec (.swc0 cr rs imm) s = s.withCop0
      (if !isAligned .word (s.ea rs imm) || s.userBlocked (s.ea rs imm) then s.raise (.adES (s.ea rs imm))
       else ((s.cop0Read cr).2.memWrite (s.ea rs imm) .word (s.cop0Read cr).1).complete { }) := rfl

/-- No instruction but LWL and LWR looks at the value in the load latch: each is one shared operation, and the two runs of
that operation end alike. -/
theorem exec_endsAlike (i : Instr) (s : State) (v : Word) : EndsAlike s v i (exec i s) (exec i (s.withLoadValue v)) := by
  by_cases hres : isReserved i = true
  · rw [exec_of_isReserved hres, exec_of_isReserved hres]
    exact .raises _
  cases i
  case sll | srl | sra | sllv | srlv | srav | addu | subu | and | or | xor | nor | slt | sltu | addiu | slti | sltiu | andi
      | ori | xori | lui | mfhi | mflo =>
    exact endsAlike_complete rfl rfl rfl rfl
  case add | sub | addi => exact endsAlike_ite (fun _ => .raises _) fun _ => endsAlike_complete rfl rfl rfl rfl
  case mult | multu | div | divu | mthi | mtlo => exact endsAlike_completeHiLo rfl
  case beq | bne | blez | bgtz | bltz | bgez | bltzal | bgezal | j | jal | jr | jalr | bcondzRt02 | bcondzRt03
      | bcondzRt04 | bcondzRt05 | bcondzRt06 | bcondzRt07 | bcondzRt08 | bcondzRt09 | bcondzRt0A | bcondzRt0B
      | bcondzRt0C | bcondzRt0D | bcondzRt0E | bcondzRt0F | bcondzRt12 | bcondzRt13 | bcondzRt14 | bcondzRt15
      | bcondzRt16 | bcondzRt17 | bcondzRt18 | bcondzRt19 | bcondzRt1A | bcondzRt1B | bcondzRt1C | bcondzRt1D
      | bcondzRt1E | bcondzRt1F =>
    exact endsAlike_completeBranch rfl rfl
  case lb | lbu | lh | lhu | lw =>
    delta exec
    dsimp only
    exact endsAlike_loading fun _ _ hld hage => endsAlike_complete rfl hld hage rfl
  case lwl | lwr =>
    delta exec
    dsimp only
    exact endsAlike_loadingWord fun _ _ hld hage => .completes _ _ _ hld hage rfl nofun
  case sb | sh | sw => exact endsAlike_storing rfl
  case swl | swr => exact endsAlike_storingMasked rfl
  case lwc0 =>
    exact endsAlike_withCop0 (endsAlike_loading fun _ _ hld hage =>
      endsAlike_complete (State.cop0Write_withLoadValue ..) (by simpa) (by simpa) rfl)
  case swc0 =>
    rw [exec_swc0, exec_swc0, State.cop0Read_withLoadValue]
    exact endsAlike_withCop0 (endsAlike_ite (fun _ => .raises _) fun _ =>
      endsAlike_complete (State.memWrite_withLoadValue ..) (by simp) (by simp) rfl)
  case mfc0 =>
    rw [exec_mfc0, exec_mfc0, State.cop0Read_withLoadValue]
    exact endsAlike_withCop0 (endsAlike_complete rfl (by simp) (by simp) rfl)
  case mtc0 =>
    exact endsAlike_withCop0 (endsAlike_complete (State.cop0Write_withLoadValue ..) (by simp) (by simp) rfl)
  case bc0f | bc0t | cfc0 | ctc0 | rfe | cop0Generic => exact endsAlike_withCop0 (endsAlike_complete rfl rfl rfl rfl)
  case cop0Rs01 | cop0Rs03 | cop0Rs05 | cop0Rs07 | cop0Rs09 | cop0Rs0A | cop0Rs0B | cop0Rs0C | cop0Rs0D | cop0Rs0E
      | cop0Rs0F | cop0Rs08Other =>
    exact endsAlike_withCop0 (.refuses _ nofun)
  case cop2 | lwc2 | swc2 => exact endsAlike_cop2
  case syscall | brk | cop1 | cop3 | lwc1 | lwc3 | swc1 | swc3 => exact .raises _
  -- Left are the reserved instructions, treated above.
  all_goals exact absurd rfl hres

/-! ### A branch in a slot (40_cycle.md R405) -/

/-- The branches and jumps share one operation. -/
theorem exec_of_isBranchOrJump {i : Instr} (h : isBranchOrJump i = true) (s : State) :
    ∃ e, exec i s = s.completeBranch e := by
  cases i
  all_goals cases h
  all_goals exact ⟨_, rfl⟩

/-- Settles O14: of the stops an instruction can end in, this one is the branches' alone and needs the slot flag. -/
theorem branchInSlotIsRefused : Obligations.BranchInSlotIsRefused := by
  intro i s
  constructor
  · intro h
    obtain ⟨o, hends⟩ : ∃ o, EndsAlike s 0#32 i (exec i s) o := ⟨_, exec_endsAlike i s 0#32⟩
    rw [h] at hends
    cases hends with
    | refuses _ hslot => exact hslot rfl
  · rintro ⟨hb, hs⟩
    obtain ⟨e, he⟩ := exec_of_isBranchOrJump hb s
    rw [he, State.completeBranch, if_pos hs]

/-! ### The HI/LO read age (40_cycle.md R411) -/

theorem exec_mfhi (rd : Reg) (s : State) :
    exec (.mfhi rd) s = .next (s.retire { write := some (rd, s.hi), readsHiLo := true }) := rfl
theorem exec_mflo (rd : Reg) (s : State) :
    exec (.mflo rd) s = .next (s.retire { write := some (rd, s.lo), readsHiLo := true }) := rfl

theorem isHiLoRead_false {i : Instr} (h : ¬ ∃ rd, i = .mfhi rd ∨ i = .mflo rd) : isHiLoRead i = false := by
  unfold isHiLoRead
  split
  · exact absurd ⟨_, .inl rfl⟩ h
  · exact absurd ⟨_, .inr rfl⟩ h
  · rfl

/-- An instruction that is no MFHI or MFLO grows the read age, completed or not. -/
theorem exec_ages {i : Instr} {s t : State} (hi : isHiLoRead i = false) (h : exec i s = .next t) : Ages s t := by
  obtain ⟨o, hends⟩ : ∃ o, EndsAlike s 0#32 i (exec i s) o := ⟨_, exec_endsAlike i s 0#32⟩
  rw [h] at hends
  cases hends with
  | raises e => exact (s.takeException_spec e s.currentPc).age
  | completes u e _ _ hage hreads _ =>
    unfold Ages
    rw [State.ages_retire u (hreads.trans hi), hage]

/-- Settles O9: an MFHI or MFLO completes with the age reset; exceptions and every other instruction grow it. -/
theorem hiLoAgeCountsSteps : Obligations.HiLoAgeCountsSteps := by
  intro s t h
  obtain ⟨_, ⟨hi, rfl⟩ | ⟨_, hf, rfl⟩ | ⟨hi, hf, he⟩⟩ := step_cases h
  · exact ⟨fun ⟨hi', _⟩ => absurd hi' (by simp [hi]), fun _ => (s.takeException_spec .int s.pc).age⟩
  · exact ⟨fun ⟨_, hf', _⟩ => absurd hf' (by simp [hf]), fun _ => (s.takeException_spec (.adEL s.pc) s.pc).age⟩
  · constructor
    · rintro ⟨-, -, rd, hr | hr⟩
      · rw [hr, exec_mfhi] at he; cases he; rfl
      · rw [hr, exec_mflo] at he; cases he; rfl
    · intro hno
      have hr : isHiLoRead s.nextInstr = false := isHiLoRead_false fun hr => hno ⟨hi, hf, hr⟩
      rw [exec_ages hr he, State.afterFetch_hiloAge]

/-! ### A pending load (40_cycle.md R406-R408, P1) -/

/-- The two states differ in register r and in the value of a load that is not pending at most. -/
def SameBut (r : Reg) (t u : State) : Prop :=
  (∀ q : Reg, q ≠ r → u.x q = t.x q) ∧ u.hi = t.hi ∧ u.lo = t.lo ∧ u.pc = t.pc ∧ u.currentPc = t.currentPc ∧
  u.bd = t.bd ∧ u.slot = t.slot ∧ u.hiloAge = t.hiloAge ∧ u.status = t.status ∧ u.cop0 = t.cop0 ∧ u.mem = t.mem ∧
  u.events = t.events ∧ u.draws = t.draws ∧ u.params = t.params ∧ u.ld.pending = t.ld.pending ∧
  (t.ld.pending = true → u.ld = t.ld)

theorem sameBut_of {r : Reg} {t u : State} (hrest : u = { t with gpr := u.gpr, ld := u.ld })
    (hx : ∀ q : Reg, q ≠ r → u.x q = t.x q) (hp : u.ld.pending = t.ld.pending) (hl : t.ld.pending = true → u.ld = t.ld) :
    SameBut r t u := by
  generalize u.gpr = g, u.ld = l at hrest
  subst hrest
  exact ⟨hx, rfl, rfl, rfl, rfl, rfl, rfl, rfl, rfl, rfl, rfl, rfl, rfl, rfl, hp, hl⟩

theorem State.applyWrite_eq (s : State) (e : Effect) : s.applyWrite e = { s with gpr := (s.applyWrite e).gpr } := by
  unfold State.applyWrite; split <;> rfl
theorem State.resolveLoad_eq (s : State) (e : Effect) : s.resolveLoad e = { s with gpr := (s.resolveLoad e).gpr } := by
  unfold State.resolveLoad; split <;> rfl

/-- The pending load arrives in its own register only. -/
theorem State.arrived_withLoadValue {s : State} {r : Reg} (h : r ≠ s.ld.reg) (v : Word) :
    (s.withLoadValue v).arrived r = s.arrived r := by
  simp [State.arrived, State.withLoadValue, h.symm, State.x]

theorem State.x_retire_withLoadValue {s : State} {r : Reg} (h : r ≠ s.ld.reg) (e : Effect) (v : Word) :
    ((s.withLoadValue v).retire e).x r = (s.retire e).x r := by
  rw [State.x_retire, State.x_retire, State.arrived_withLoadValue h, State.x_applyWrite, State.x_applyWrite]
  rfl

/-- A completed step passes the value in the load latch to the latch's register and nowhere else. -/
theorem State.retire_sameBut (s : State) (e : Effect) (v : Word) :
    SameBut s.ld.reg (s.retire e) ((s.withLoadValue v).retire e) := by
  refine sameBut_of ?_ (fun q hq => State.x_retire_withLoadValue hq e v) ?_ ?_
  · unfold State.retire
    rw [State.resolveLoad_eq, State.resolveLoad_eq (s.applyWrite e), State.applyWrite_eq, State.applyWrite_eq s]
    rfl
  · rw [State.retire_ld, State.retire_ld]
    cases h : e.load <;> simp [LoadLatch.after, h]
  · rw [State.retire_ld, State.retire_ld]
    cases h : e.load <;> simp [LoadLatch.after, h]

/-- An exception entry passes the value in the load latch to the latch's register and nowhere else (40_cycle.md R409). -/
theorem State.takeException_sameBut (s : State) (e : Exc) (v x : Word) :
    SameBut s.ld.reg (s.takeException e x) ((s.withLoadValue v).takeException e x) := by
  refine sameBut_of ?_ (fun q hq => ?_) rfl nofun
  · unfold State.takeException
    rw [State.resolveLoad_eq, State.resolveLoad_eq s]
    rfl
  · obtain ⟨hx, _⟩ := (s.takeException_spec e x).regs
    obtain ⟨hx', _⟩ := ((s.withLoadValue v).takeException_spec e x).regs
    rw [hx, hx', State.arrived_withLoadValue hq]

/-- Settles O48: the two runs end alike, and the end of the step passes the value to the load's register only. -/
theorem pendingLoadIsInvisibleToTheSlot : Obligations.PendingLoadIsInvisibleToTheSlot := by
  intro i s v hc _
  have hends : EndsAlike s v i (exec i s) (exec i { s with ld := { s.ld with value := v } }) := exec_endsAlike i s v
  generalize exec i s = o, exec i { s with ld := { s.ld with value := v } } = o' at hends
  cases hends with
  | raises e => exact s.takeException_sameBut e v s.currentPc
  | faults => rfl
  | refuses => rfl
  | completes u e e' hld _ _ heffect =>
    rw [heffect hc, ← hld]
    exact u.retire_sameBut e v

end Sys2Proof.Machine
end

section
/-! PROOFS. The ALU family (41_alu.md): the shifts, the register ALU and the immediate ALU instructions that cannot trap,
and the three that trap on signed overflow. -/

namespace Sys2Proof.Machine

/-! ### The two ways an ALU instruction ends -/

/-- An instruction that ends in `completeWrite` wrote its destination and nothing else; `hv` puts the value in the terms of
the spec. -/
theorem registerStep_of_exec {s : State} {i : Instr} {d : Reg} {v v' : Word} (h : exec i s = s.completeWrite d v')
    (hv : v' = v) : ∃ t, exec i s = .next t ∧ RegisterStep s t d v := by
  rw [h, hv]
  exact s.completeWrite_spec d v

/-- An instruction guarded by an overflow test that is the range test of its exact result `n` writes that result where it
is in the signed range, and otherwise enters Ov (41_alu.md R520). -/
theorem registerStep_or_ov_of_exec {s : State} {i : Instr} {d : Reg} {v : Word} {n : Int} {overflows : Bool}
    (h : exec i s = if overflows then s.raise .ov else s.completeWrite d v)
    (ho : overflows = true ↔ ¬ (-(2 ^ 31) ≤ n ∧ n < 2 ^ 31)) (hv : -(2 ^ 31) ≤ n ∧ n < 2 ^ 31 → v.toInt = n) :
    (-(2 ^ 31) ≤ n ∧ n < 2 ^ 31 → ∃ t, exec i s = .next t ∧ RegisterStep s t d v ∧ v.toInt = n) ∧
    (¬ (-(2 ^ 31) ≤ n ∧ n < 2 ^ 31) → ∃ t, exec i s = .next t ∧ EnteredPlain s t 12#5 s.currentPc) := by
  constructor
  · intro hn
    obtain ⟨t, ht, hstep⟩ := registerStep_of_exec (h.trans (if_neg fun hov => ho.mp hov hn)) rfl
    exact ⟨t, ht, hstep, hv hn⟩
  · intro hn
    exact ⟨_, h.trans (if_pos (ho.mpr hn)), s.takeException_spec .ov s.currentPc, rfl⟩

/-! ### The statements -/

/-- Settles O3: the overflow tests are range tests of the exact result, and ADDI adds the sign-extended immediate. -/
theorem signedArithmeticTrapsExactlyOnOverflow : Obligations.SignedArithmeticTrapsExactlyOnOverflow := by
  refine ⟨decodesAs_funct 0x20#6 rfl rfl ?addWord, decodesAs_funct 0x22#6 rfl rfl ?subWord,
    decodesAs_op 0x08#6 rfl fun w h => by unfold decode; rw [h]; rfl, fun s rd rs rt imm => ⟨?add, ?sub, ?addi⟩⟩
  case addWord | subWord => exact fun w h => by unfold decodeSpecial; rw [h]; rfl
  case add =>
    rintro n rfl
    exact registerStep_or_ov_of_exec rfl (addOverflows_iff _ _) toInt_add_of_range
  case sub =>
    rintro n rfl
    exact registerStep_or_ov_of_exec rfl (subOverflows_iff _ _) toInt_sub_of_range
  case addi =>
    rintro n rfl
    rw [← toInt_simm]
    exact registerStep_or_ov_of_exec rfl (addOverflows_iff _ _) toInt_add_of_range

/-- Settles O1: a register shift's amount is the register modulo 32. -/
theorem shiftsWriteShiftedValue : Obligations.ShiftsWriteShiftedValue := by
  refine ⟨decodesAs_funct 0x00#6 rfl rfl ?_, decodesAs_funct 0x02#6 rfl rfl ?_, decodesAs_funct 0x03#6 rfl rfl ?_,
    decodesAs_funct 0x04#6 rfl rfl ?_, decodesAs_funct 0x06#6 rfl rfl ?_, decodesAs_funct 0x07#6 rfl rfl ?_,
    fun s rd rt rs sa => ?operation⟩
  case operation =>
    rw [← shiftAmount_eq]
    exact ⟨registerStep_of_exec rfl rfl, registerStep_of_exec rfl rfl, registerStep_of_exec rfl rfl,
      registerStep_of_exec rfl rfl, registerStep_of_exec rfl rfl, registerStep_of_exec rfl rfl⟩
  all_goals exact fun w h => by unfold decodeSpecial; rw [h]; rfl

/-- Settles O2: SLT and SLTU write their comparison as 1 or 0. -/
theorem registerAluWritesResult : Obligations.RegisterAluWritesResult := by
  refine ⟨decodesAs_funct 0x21#6 rfl rfl ?_, decodesAs_funct 0x23#6 rfl rfl ?_, decodesAs_funct 0x24#6 rfl rfl ?_,
    decodesAs_funct 0x25#6 rfl rfl ?_, decodesAs_funct 0x26#6 rfl rfl ?_, decodesAs_funct 0x27#6 rfl rfl ?_,
    decodesAs_funct 0x2A#6 rfl rfl ?_, decodesAs_funct 0x2B#6 rfl rfl ?_, fun s rd rs rt => ?operation⟩
  case operation =>
    exact ⟨registerStep_of_exec rfl rfl, registerStep_of_exec rfl rfl, registerStep_of_exec rfl rfl,
      registerStep_of_exec rfl rfl, registerStep_of_exec rfl rfl, registerStep_of_exec rfl rfl,
      registerStep_of_exec rfl (boolWord_eq BitVec.slt_iff_toInt_lt),
      registerStep_of_exec rfl (boolWord_eq BitVec.ult_iff_toNat_lt)⟩
  all_goals exact fun w h => by unfold decodeSpecial; rw [h]; rfl

/-- Settles O4: each immediate operand is extended as its instruction says. -/
theorem immediateAluWritesResult : Obligations.ImmediateAluWritesResult := by
  refine ⟨decodesAs_op 0x09#6 rfl ?_, decodesAs_op 0x0A#6 rfl ?_, decodesAs_op 0x0B#6 rfl ?_, decodesAs_op 0x0C#6 rfl ?_,
    decodesAs_op 0x0D#6 rfl ?_, decodesAs_op 0x0E#6 rfl ?_, decodesAs_op 0x0F#6 rfl ?_, fun s rt rs imm => ?operation⟩
  case operation =>
    rw [← zimm_eq_append, ← toInt_simm]
    exact ⟨registerStep_of_exec rfl rfl,
      registerStep_of_exec rfl (boolWord_eq BitVec.slt_iff_toInt_lt),
      registerStep_of_exec rfl (boolWord_eq BitVec.ult_iff_toNat_lt),
      registerStep_of_exec rfl rfl, registerStep_of_exec rfl rfl, registerStep_of_exec rfl rfl,
      registerStep_of_exec rfl rfl⟩
  all_goals exact fun w h => by unfold decode; rw [h]; rfl

end Sys2Proof.Machine
end

section
/-! PROOFS. The multiply and divide family (42_muldiv.md): the exact products, the quotients and remainders with their
defined special cases, and the HI/LO moves. -/

namespace Sys2Proof.Machine

/-! ### The two ways an instruction that writes HI and LO ends (70_reset_and_hazards.md R1141) -/

theorem State.completeHiLo_hazard {s : State} (hz : s.hazard) (h l : Word) :
    s.completeHiLo h l = .fault .hiloHazard := if_pos (State.hiloBlocked_iff.mpr hz)

theorem hazardFault_of_exec {s : State} {i : Instr} {h l : Word} (he : exec i s = s.completeHiLo h l) (hz : s.hazard) :
    exec i s = .fault .hiloHazard := he.trans (State.completeHiLo_hazard hz h l)

theorem hiLoStep_of_exec {s : State} {i : Instr} {h l : Word} (he : exec i s = s.completeHiLo h l) (hz : ¬ s.hazard) :
    ∃ t, exec i s = .next t ∧ HiLoStep s t h l := by
  rw [he]
  exact State.completeHiLo_spec (by rwa [← Bool.not_eq_true, State.hiloBlocked_iff]) h l

/-- Without a hazard the step ends with values in HI and LO that have every property of the two values given. -/
theorem hiLoStep_satisfies {s : State} {i : Instr} {h l : Word} {P : State → Prop}
    (he : exec i s = s.completeHiLo h l) (hz : ¬ s.hazard) (hP : ∀ t : State, t.hi = h → t.lo = l → P t) :
    ∃ t, exec i s = .next t ∧ HiLoStep s t t.hi t.lo ∧ P t := by
  obtain ⟨t, ht, hstep⟩ := hiLoStep_of_exec he hz
  have hhi := hstep.hi
  have hlo := hstep.lo
  exact ⟨t, ht, by rwa [hhi, hlo], hP t hhi hlo⟩

/-! ### The product (R600, R601) -/

theorem hiHalf_append_loHalf (p : BitVec 64) : hiHalf p ++ loHalf p = p :=
  (BitVec.extractLsb'_append_extractLsb'_eq_extractLsb' rfl).trans BitVec.extractLsb'_eq_self

/-- A product of two signed words is at most 2^62 in magnitude. -/
theorem toInt_signedProduct (a b : Word) : (signedProduct a b).toInt = a.toInt * b.toInt := by
  have hle : a.toInt * b.toInt ≤ 2 ^ 62 := BitVec.toInt_mul_toInt_le
  have hge : -2 ^ 62 ≤ a.toInt * b.toInt := BitVec.le_toInt_mul_toInt
  exact BitVec.toInt_ofInt_eq_self (by decide) (by omega) (by omega)

theorem toNat_unsignedProduct (a b : Word) : (unsignedProduct a b).toNat = a.toNat * b.toNat :=
  (BitVec.toNat_ofNat ..).trans (Nat.mod_eq_of_lt BitVec.toNat_mul_toNat_lt)

/-- Settles O5: the 64-bit product does not wrap, and its halves make it up. -/
theorem multiplyIsExact : Obligations.MultiplyIsExact := by
  refine ⟨decodesAs_funct 0x18#6 rfl rfl ?_, decodesAs_funct 0x19#6 rfl rfl ?_, fun s rs rt =>
    ⟨fun hz => ⟨hazardFault_of_exec rfl hz, hazardFault_of_exec rfl hz⟩, fun hz => ⟨?signed, ?unsigned⟩⟩⟩
  case signed =>
    exact hiLoStep_satisfies rfl hz fun t hhi hlo => by rw [hhi, hlo, hiHalf_append_loHalf, toInt_signedProduct]
  case unsigned =>
    exact hiLoStep_satisfies rfl hz fun t hhi hlo => by rw [hhi, hlo, hiHalf_append_loHalf, toNat_unsignedProduct]
  all_goals exact fun w h => by unfold decodeSpecial; rw [h]; rfl

/-! ### Quotient and remainder (R602, R603) -/

@[simp] theorem divHi_zero (a : Word) : divHi a 0#32 = a := rfl
@[simp] theorem divLo_zero (a : Word) : divLo a 0#32 = if 0 ≤ a.toInt then 0xFFFFFFFF#32 else 0x00000001#32 := rfl

theorem divHi_overflow : divHi 0x80000000#32 0xFFFFFFFF#32 = 0#32 := rfl
theorem divLo_overflow : divLo 0x80000000#32 0xFFFFFFFF#32 = 0x80000000#32 := rfl

theorem divLo_ordinary {a b : Word} (hb : b ≠ 0#32) (ho : ¬ (a = 0x80000000#32 ∧ b = 0xFFFFFFFF#32)) :
    divLo a b = BitVec.ofInt 32 (a.toInt.tdiv b.toInt) := (if_neg (BitVec.toInt_ne.mpr hb)).trans (if_neg ho)

theorem divHi_ordinary {a b : Word} (hb : b ≠ 0#32) (ho : ¬ (a = 0x80000000#32 ∧ b = 0xFFFFFFFF#32)) :
    divHi a b = BitVec.ofInt 32 (a.toInt.tmod b.toInt) := (if_neg (BitVec.toInt_ne.mpr hb)).trans (if_neg ho)

/-- The truncated quotient is the library's `sdiv`, which wraps for 0x80000000 / -1 only. -/
theorem toInt_divLo_ordinary {a b : Word} (hb : b ≠ 0#32) (ho : ¬ (a = 0x80000000#32 ∧ b = 0xFFFFFFFF#32)) :
    (divLo a b).toInt = a.toInt.tdiv b.toInt := by
  have hq : (a.sdiv b).toInt = a.toInt.tdiv b.toInt := BitVec.toInt_sdiv_of_ne_or_ne a b (not_and_or.mp ho)
  rw [divLo_ordinary hb ho, ← hq, BitVec.ofInt_toInt]

theorem toInt_divHi_ordinary {a b : Word} (hb : b ≠ 0#32) (ho : ¬ (a = 0x80000000#32 ∧ b = 0xFFFFFFFF#32)) :
    (divHi a b).toInt = a.toInt.tmod b.toInt := by
  rw [divHi_ordinary hb ho, ← BitVec.toInt_srem, BitVec.ofInt_toInt]

@[simp] theorem divuHi_zero (a : Word) : divuHi a 0#32 = a := rfl
@[simp] theorem divuLo_zero (a : Word) : divuLo a 0#32 = 0xFFFFFFFF#32 := rfl

theorem divuLo_of_ne_zero {a b : Word} (hb : b ≠ 0#32) : divuLo a b = a / b :=
  (if_neg hb).trans (BitVec.udiv_def ..).symm
theorem divuHi_of_ne_zero {a b : Word} (hb : b ≠ 0#32) : divuHi a b = a % b :=
  (if_neg hb).trans (BitVec.umod_def ..).symm

/-- Settles O6: case by case of the pair, with the library's division of words in the ordinary ones. -/
theorem divideGivesQuotientAndRemainder : Obligations.DivideGivesQuotientAndRemainder := by
  refine ⟨decodesAs_funct 0x1A#6 rfl rfl ?_, decodesAs_funct 0x1B#6 rfl rfl ?_, fun s rs rt =>
    ⟨fun hz => ⟨hazardFault_of_exec rfl hz, hazardFault_of_exec rfl hz⟩, fun hz =>
      ⟨hiLoStep_satisfies rfl hz fun t hhi hlo => ?signed, hiLoStep_satisfies rfl hz fun t hhi hlo => ?unsigned⟩⟩⟩
  case signed =>
    rw [hhi, hlo]
    refine ⟨fun h0 => ?_, fun ha hb => ?_, fun h0 ho => ⟨toInt_divLo_ordinary h0 ho, toInt_divHi_ordinary h0 ho⟩⟩
    · rw [h0]
      exact ⟨divHi_zero _, divLo_zero _⟩
    · rw [ha, hb]
      exact ⟨divLo_overflow, divHi_overflow⟩
  case unsigned =>
    rw [hhi, hlo]
    refine ⟨fun h0 => ?_, fun h0 => ?_⟩
    · rw [h0]
      exact ⟨divuHi_zero _, divuLo_zero _⟩
    · rw [divuLo_of_ne_zero h0, divuHi_of_ne_zero h0]
      exact ⟨BitVec.toNat_udiv, BitVec.toNat_umod⟩
  all_goals exact fun w h => by unfold decodeSpecial; rw [h]; rfl

/-! ### The moves (R605-R608) -/

/-- An instruction that completes with a direct write after a HI/LO read starts the read age again and changes nothing but
its destination. -/
theorem hiLoRead_of_exec {s : State} {i : Instr} {d : Reg} {v : Word}
    (he : exec i s = .next (s.retire { write := some (d, v), readsHiLo := true })) :
    ∃ t, exec i s = .next t ∧ WritesReg s t d v ∧ Falls s t ∧ t.hiloAge = 0 ∧ KeepsHiLo s t ∧ KeepsCop0 s t ∧
      KeepsMemory s t ∧ KeepsBook s t ∧ t.draws = s.draws :=
  ⟨_, he, s.writesReg_retire rfl rfl, s.falls_retire rfl rfl, rfl, ⟨by simp, by simp⟩, by simp [KeepsCop0],
    s.keepsMemory_retire _, s.keepsBook_retire _, by simp⟩

/-- Settles O7: the reads complete without a check, the writes end like the multiplications. -/
theorem hiLoMovesTransfer : Obligations.HiLoMovesTransfer := by
  refine ⟨decodesAs_funct 0x10#6 rfl rfl ?_, decodesAs_funct 0x12#6 rfl rfl ?_, decodesAs_funct 0x11#6 rfl rfl ?_,
    decodesAs_funct 0x13#6 rfl rfl ?_, fun s rd rs =>
      ⟨hiLoRead_of_exec (exec_mfhi rd s), hiLoRead_of_exec (exec_mflo rd s),
        fun hz => ⟨hazardFault_of_exec rfl hz, hazardFault_of_exec rfl hz⟩,
        fun hz => ⟨hiLoStep_of_exec rfl hz, hiLoStep_of_exec rfl hz⟩⟩⟩
  all_goals exact fun w h => by unfold decodeSpecial; rw [h]; rfl

end Sys2Proof.Machine
end

section
/-! PROOFS. The branch family (43_branch.md): the conditional branches and their linking forms, the other BcondZ words, and
the jumps. -/

namespace Sys2Proof.Machine

/-! ### The ways a branch or jump ends (R701, R702) -/

/-- An instruction that ends in `completeBranch` outside a slot, with no branch pending, latched its target, wrote its link
and nothing else. -/
theorem branchStep_of_exec {s : State} {i : Instr} {link : Option Reg} {target target' : Option Word} (hs : s.slot = false)
    (hp : s.bd.pending = false)
    (he : exec i s = s.completeBranch { write := link.map fun d => (d, s.link), jump := target' })
    (ht : target' = target) : ∃ t, exec i s = .next t ∧ BranchStep s t link target := by
  rw [he, ← ht]
  exact State.completeBranch_spec hs hp rfl rfl rfl

/-- A taken conditional branch latches the address its offset gives, an untaken one nothing. -/
theorem State.jumpIf_eq {s : State} {imm : BitVec 16} {target : Word} {c : Bool} {p : Prop} [Decidable p]
    (ht : target = s.pc + (imm.signExtend 32 <<< 2)) (hc : c = true ↔ p) :
    s.jumpIf c imm = if p then some target else none := by
  rw [ht]
  exact if_congr hc rfl rfl

/-! ### The conditions (R710-R717) -/

theorem isNeg_iff {v : Word} : isNeg v = true ↔ v.toInt < 0 := decide_eq_true_iff
theorem isNonneg_iff {v : Word} : isNonneg v = true ↔ 0 ≤ v.toInt := decide_eq_true_iff
theorem isNonpos_iff {v : Word} : isNonpos v = true ↔ v.toInt ≤ 0 := decide_eq_true_iff
theorem isPos_iff {v : Word} : isPos v = true ↔ 0 < v.toInt := decide_eq_true_iff

/-- A word offset keeps the alignment of the delay slot's address. -/
theorem State.branchTarget_aligned {s : State} (imm : BitVec 16) (h : s.pc.toNat % 4 = 0) :
    (s.branchTarget imm).toNat % 4 = 0 := by
  rw [State.branchTarget, boff, BitVec.toNat_add, BitVec.toNat_shiftLeft, Nat.shiftLeft_eq]
  omega

theorem decodesAs_bltz : DecodesAs 0xFC1F0000#32 0x04000000#32 fun w => .bltz (rsField w) (immField w) :=
  decodesAs_rt 0x00#5 rfl rfl fun w h => by unfold decodeBcondZ; rw [h]; rfl
theorem decodesAs_bgez : DecodesAs 0xFC1F0000#32 0x04010000#32 fun w => .bgez (rsField w) (immField w) :=
  decodesAs_rt 0x01#5 rfl rfl fun w h => by unfold decodeBcondZ; rw [h]; rfl

/-- Settles O10: each condition is its comparison. -/
theorem conditionalBranchesLatchTarget : Obligations.ConditionalBranchesLatchTarget := by
  refine ⟨decodesAs_op 0x04#6 rfl ?_, decodesAs_op 0x05#6 rfl ?_, decodesAs_op 0x06#6 rfl ?_, decodesAs_op 0x07#6 rfl ?_,
    decodesAs_bltz, decodesAs_bgez, fun s rs rt imm target hs hp ht => ?operation⟩
  case operation =>
    exact ⟨branchStep_of_exec hs hp rfl (State.jumpIf_eq ht beq_iff_eq),
      branchStep_of_exec hs hp rfl (State.jumpIf_eq ht bne_iff_ne),
      branchStep_of_exec hs hp rfl (State.jumpIf_eq ht isNonpos_iff),
      branchStep_of_exec hs hp rfl (State.jumpIf_eq ht isPos_iff),
      branchStep_of_exec hs hp rfl (State.jumpIf_eq ht isNeg_iff),
      branchStep_of_exec hs hp rfl (State.jumpIf_eq ht isNonneg_iff),
      fun ha => ht ▸ State.branchTarget_aligned imm ha⟩
  all_goals exact fun w h => by unfold decode; rw [h]; rfl

/-- Settles O11: the condition is read in the state before the link is written. -/
theorem linkingBranchesAlwaysLink : Obligations.LinkingBranchesAlwaysLink := by
  refine ⟨decodesAs_rt 0x10#5 rfl rfl ?_, decodesAs_rt 0x11#5 rfl rfl ?_, fun s rs imm target hs hp ht =>
    ⟨branchStep_of_exec hs hp rfl (State.jumpIf_eq ht isNeg_iff),
      branchStep_of_exec hs hp rfl (State.jumpIf_eq ht isNonneg_iff)⟩⟩
  all_goals exact fun w h => by unfold decodeBcondZ; rw [h]; rfl

/-! ### The other BcondZ words (R718) -/

/-- BLTZ and the even BcondZ words are one operation. -/
theorem exec_of_mem_bltz_bcondzEven (rs : Reg) (imm : BitVec 16) (s : State) :
    ∀ c ∈ Instr.bltz :: bcondzEven, exec (c rs imm) s = s.branchIf (isNeg (s.x rs)) imm := by
  simp only [bcondzEven, List.forall_mem_cons]
  exact ⟨rfl, rfl, rfl, rfl, rfl, rfl, rfl, rfl, rfl, rfl, rfl, rfl, rfl, rfl, rfl, List.forall_mem_nil _⟩

/-- BGEZ and the odd BcondZ words are one operation. -/
theorem exec_of_mem_bgez_bcondzOdd (rs : Reg) (imm : BitVec 16) (s : State) :
    ∀ c ∈ Instr.bgez :: bcondzOdd, exec (c rs imm) s = s.branchIf (isNonneg (s.x rs)) imm := by
  simp only [bcondzOdd, List.forall_mem_cons]
  exact ⟨rfl, rfl, rfl, rfl, rfl, rfl, rfl, rfl, rfl, rfl, rfl, rfl, rfl, rfl, rfl, List.forall_mem_nil _⟩

/-- A BcondZ word that does not link tests the sign of rs as the low bit of its rt says. -/
theorem exec_decodeBcondZ {w : Word} (h10 : rtBits w ≠ 0x10#5) (h11 : rtBits w ≠ 0x11#5) (s : State) :
    exec (decodeBcondZ w) s =
      exec (if (rtBits w).getLsbD 0 then .bgez (rsField w) (immField w) else .bltz (rsField w) (immField w)) s := by
  obtain ⟨k, hk⟩ := exists_eq_ofFin (rtBits w)
  unfold decodeBcondZ
  rw [hk] at h10 h11 ⊢
  fin_cases k
  -- The goals stand in the order of `k`: rt = 0x11 is the eighteenth, 0x10 the seventeenth.
  on_goal 18 => exact absurd rfl h11
  on_goal 17 => exact absurd rfl h10
  all_goals rfl

/-- Settles O12: the words by the low bit of rt, the 28 instructions as the two operations they share. -/
theorem otherBcondzActAsBltzOrBgez : Obligations.OtherBcondzActAsBltzOrBgez := by
  refine ⟨decodesAs_bltz, decodesAs_bgez,
    fun w s ho _ _ h10 h11 => (congrArg (exec · s) (decode_bcondZ ho)).trans (exec_decodeBcondZ h10 h11 s),
    fun s rs imm target hs hp ht => ⟨fun c hc => ?even, fun c hc => ?odd⟩⟩
  case even =>
    exact branchStep_of_exec hs hp (exec_of_mem_bltz_bcondzEven rs imm s c hc) (State.jumpIf_eq ht isNeg_iff)
  case odd =>
    exact branchStep_of_exec hs hp (exec_of_mem_bgez_bcondzOdd rs imm s c hc) (State.jumpIf_eq ht isNonneg_iff)

/-! ### The jumps (R720-R723) -/

/-- Settles O13: a jump's target is not checked where it is latched; the fetch check of O40 catches it. -/
theorem jumpsLatchTarget : Obligations.JumpsLatchTarget := by
  refine ⟨decodesAs_op 0x02#6 rfl ?jWord, decodesAs_op 0x03#6 rfl ?jalWord, decodesAs_funct 0x08#6 rfl rfl ?_,
    decodesAs_funct 0x09#6 rfl rfl ?_, fun s rs rd target hs hp => ?operation⟩
  case operation =>
    have htarget : some (s.jumpTarget target) = some (s.pc.extractLsb' 28 4 ++ target ++ 0#2) :=
      congrArg some (jumpTarget_eq s.pc target)
    exact ⟨branchStep_of_exec hs hp rfl htarget, branchStep_of_exec hs hp rfl htarget, branchStep_of_exec hs hp rfl rfl,
      branchStep_of_exec hs hp rfl rfl, fetchAddressErrors⟩
  case jWord | jalWord => exact fun w h => by unfold decode; rw [h]; rfl
  all_goals exact fun w h => by unfold decodeSpecial; rw [h]; rfl

end Sys2Proof.Machine
end

section
/-! PROOFS. The load and store family (44_loadstore.md): the address checks, what the loads make pending, the unaligned word
that LWR and LWL read together, what the stores change, and the COP0 forms. -/

namespace Sys2Proof.Machine

/-! ### The operation each load and store is -/

theorem exec_lb (rt rs : Reg) (imm : BitVec 16) (s : State) :
    exec (.lb rt rs imm) s = s.loading .byte (s.ea rs imm) fun v t => t.completeLoad rt ((v.setWidth 8).signExtend 32) := rfl
theorem exec_lbu (rt rs : Reg) (imm : BitVec 16) (s : State) :
    exec (.lbu rt rs imm) s = s.loading .byte (s.ea rs imm) fun v t => t.completeLoad rt v := rfl
theorem exec_lh (rt rs : Reg) (imm : BitVec 16) (s : State) :
    exec (.lh rt rs imm) s = s.loading .half (s.ea rs imm) fun v t => t.completeLoad rt ((v.setWidth 16).signExtend 32) := rfl
theorem exec_lhu (rt rs : Reg) (imm : BitVec 16) (s : State) :
    exec (.lhu rt rs imm) s = s.loading .half (s.ea rs imm) fun v t => t.completeLoad rt v := rfl
theorem exec_lwl (rt rs : Reg) (imm : BitVec 16) (s : State) :
    exec (.lwl rt rs imm) s = s.loadingWord (s.ea rs imm) fun v t =>
      t.completeLoad rt (lwlMerge (byteLane (s.ea rs imm)) (s.mergeSource rt) v) := rfl
theorem exec_lwr (rt rs : Reg) (imm : BitVec 16) (s : State) :
    exec (.lwr rt rs imm) s = s.loadingWord (s.ea rs imm) fun v t =>
      t.completeLoad rt (lwrMerge (byteLane (s.ea rs imm)) (s.mergeSource rt) v) := rfl
theorem exec_sb (rt rs : Reg) (imm : BitVec 16) (s : State) :
    exec (.sb rt rs imm) s = s.storing .byte (s.ea rs imm) (s.x rt) := rfl
theorem exec_sh (rt rs : Reg) (imm : BitVec 16) (s : State) :
    exec (.sh rt rs imm) s = s.storing .half (s.ea rs imm) (s.x rt) := rfl
theorem exec_swl (rt rs : Reg) (imm : BitVec 16) (s : State) :
    exec (.swl rt rs imm) s = s.storingMasked (s.ea rs imm) (swlValue (byteLane (s.ea rs imm)) (s.x rt))
      (swlMask (byteLane (s.ea rs imm))) := rfl
theorem exec_swr (rt rs : Reg) (imm : BitVec 16) (s : State) :
    exec (.swr rt rs imm) s = s.storingMasked (s.ea rs imm) (swrValue (byteLane (s.ea rs imm)) (s.x rt))
      (swrMask (byteLane (s.ea rs imm))) := rfl
theorem exec_lwc0 (cr : CopReg) (rs : Reg) (imm : BitVec 16) (s : State) :
    exec (.lwc0 cr rs imm) s =
      s.withCop0 (s.loading .word (s.ea rs imm) fun v t => (t.cop0Write cr v).complete { }) := rfl

/-! ### The address checks (R801, R250) -/

theorem isAligned_iff {w : Width} {a : Word} : isAligned w a = true ↔ a.toNat % w.bytes = 0 := by
  refine ⟨isAligned_mod, fun h => ?_⟩
  cases w
  · rfl
  · exact isAligned_half_of h
  · exact isAligned_word_of h

/-- The two ways an aligned access is blocked, in the terms of the checks. -/
theorem State.access_blocked {s : State} {w : Width} {ea : Word} (h : ea.toNat % w.bytes ≠ 0 ∨ s.userForbidden ea) :
    isAligned w ea = false ∨ s.userBlocked ea = true :=
  h.imp (fun h => by rwa [← Bool.not_eq_true, isAligned_iff]) State.userBlocked_iff.mpr

theorem State.loadingWord_next {s : State} {ea : Word} (hu : ¬ s.userForbidden ea)
    (k : Word → State → Host.Outcome State Fault Refusal) :
    s.loadingWord ea k = k (s.memRead (alignedWord ea) .word).1 (s.memRead (alignedWord ea) .word).2 :=
  if_neg (by rwa [State.userBlocked_iff])

theorem adEL_of_raise {s : State} {i : Instr} {ea : Word} (h : exec i s = s.raise (.adEL ea)) :
    ∃ t, exec i s = .next t ∧ AddressError s t 4#5 ea := ⟨_, h, s.takeException_spec (.adEL ea) s.currentPc, rfl⟩

theorem adES_of_raise {s : State} {i : Instr} {ea : Word} (h : exec i s = s.raise (.adES ea)) :
    ∃ t, exec i s = .next t ∧ AddressError s t 5#5 ea := ⟨_, h, s.takeException_spec (.adES ea) s.currentPc, rfl⟩

section

variable {s : State} {i : Instr} {w : Width} {ea v : Word} {mask : BitVec 4}
  {k : Word → State → Host.Outcome State Fault Refusal}

theorem adEL_of_loading (he : exec i s = s.loading w ea k) (h : ea.toNat % w.bytes ≠ 0 ∨ s.userForbidden ea) :
    ∃ t, exec i s = .next t ∧ AddressError s t 4#5 ea :=
  adEL_of_raise (he.trans (State.loading_raise (State.access_blocked h) k))

theorem adEL_of_loadingWord (he : exec i s = s.loadingWord ea k) (h : s.userForbidden ea) :
    ∃ t, exec i s = .next t ∧ AddressError s t 4#5 ea :=
  adEL_of_raise (he.trans (if_pos (State.userBlocked_iff.mpr h)))

theorem adES_of_storing (he : exec i s = s.storing w ea v) (h : ea.toNat % w.bytes ≠ 0 ∨ s.userForbidden ea) :
    ∃ t, exec i s = .next t ∧ AddressError s t 5#5 ea :=
  adES_of_raise (he.trans (State.storing_raise (State.access_blocked h) v))

theorem adES_of_storingMasked (he : exec i s = s.storingMasked ea v mask) (h : s.userForbidden ea) :
    ∃ t, exec i s = .next t ∧ AddressError s t 5#5 ea :=
  adES_of_raise (he.trans (if_pos (State.userBlocked_iff.mpr h)))

end

theorem exec_lwc0_usable {s : State} (h : s.cop0Usable) (cr : CopReg) (rs : Reg) (imm : BitVec 16) :
    exec (.lwc0 cr rs imm) s = s.loading .word (s.ea rs imm) fun v t => (t.cop0Write cr v).complete { } :=
  (exec_lwc0 cr rs imm s).trans (State.withCop0_usable (State.cop0Blocked_false h) _)

theorem exec_swc0_blocked {s : State} {rs : Reg} {imm : BitVec 16} (hc : s.cop0Usable)
    (h : (s.ea rs imm).toNat % 4 ≠ 0 ∨ s.userForbidden (s.ea rs imm)) (cr : CopReg) :
    exec (.swc0 cr rs imm) s = s.raise (.adES (s.ea rs imm)) := by
  rw [exec_swc0, State.withCop0_usable (State.cop0Blocked_false hc)]
  rcases State.access_blocked (w := .word) h with hb | hb <;> simp [hb]

/-- Settles O21: the check comes before the access, and the entry of the exception touches no memory. -/
theorem addressErrorsBlockTheAccess : Obligations.AddressErrorsBlockTheAccess := by
  rintro s rt rs cr imm ea rfl
  simp only [List.forall_mem_cons]
  refine ⟨fun h => ⟨adEL_of_loading (exec_lb ..) (.inr h), adEL_of_loading (exec_lbu ..) (.inr h),
      adEL_of_loadingWord (exec_lwl ..) h, adEL_of_loadingWord (exec_lwr ..) h, List.forall_mem_nil _⟩,
    fun h => ⟨adEL_of_loading (exec_lh ..) h, adEL_of_loading (exec_lhu ..) h, List.forall_mem_nil _⟩,
    fun h => adEL_of_loading (exec_lw ..) h,
    fun hc h => adEL_of_loading (exec_lwc0_usable hc ..) h,
    fun h => ⟨adES_of_storing (exec_sb ..) (.inr h), adES_of_storingMasked (exec_swl ..) h,
      adES_of_storingMasked (exec_swr ..) h, List.forall_mem_nil _⟩,
    fun h => adES_of_storing (exec_sh ..) h, fun h => adES_of_storing (exec_sw ..) h,
    fun hc h => adES_of_raise (exec_swc0_blocked hc h cr)⟩

/-! ### The aligned loads (R810-R814) -/

section

variable {s : State} {i : Instr} {w : Width} {ea v value : Word} {rt : Reg} {f : Word → Word}

/-- An aligned load of stored bytes makes its function of their value pending. -/
theorem loadStep_of_loading (he : exec i s = s.loading w ea fun x t => t.completeLoad rt (f x))
    (ha : ea.toNat % w.bytes = 0) (hu : ¬ s.userForbidden ea) (hr : s.memRead ea w = (v, s)) (hv : f v = value) :
    ∃ t, exec i s = .next t ∧ LoadStep s t rt value 0 := by
  rw [he, State.loading_next (isAligned_iff.mpr ha) (State.userBlocked_false hu), hr, ← hv]
  exact s.completeLoad_spec rt _

/-- An aligned load from device space makes its function of the oracle's answer pending. -/
theorem deviceLoadStep_of_loading (he : exec i s = s.loading w ea fun x t => t.completeLoad rt (f x))
    (ha : ea.toNat % w.bytes = 0) (hu : ¬ s.userForbidden ea) (hd : s.regionOf ea = .device)
    (hv : f (s.deviceAnswer ea w) = value) : ∃ t, exec i s = .next t ∧ DeviceLoadStep s t rt value ea w := by
  have hread : (s.memRead ea w).1 = s.deviceAnswer ea w := congrArg Prod.fst (State.memRead_device hd w)
  rw [he, State.loading_next (isAligned_iff.mpr ha) (State.userBlocked_false hu), hread, hv]
  exact State.completeLoad_device hd rt value

/-- LWL and LWR of stored bytes make their function of the aligned word pending. -/
theorem loadStep_of_loadingWord (he : exec i s = s.loadingWord ea fun x t => t.completeLoad rt (f x))
    (hu : ¬ s.userForbidden ea) (hw : s.holdsWord (alignedWord ea) v) (hv : f v = value) :
    ∃ t, exec i s = .next t ∧ LoadStep s t rt value 0 := by
  rw [he, State.loadingWord_next hu, State.memRead_word (alignedWord_mod ea) hw, ← hv]
  exact s.completeLoad_spec rt _

/-- LWL and LWR from device space make their function of the oracle's answer for the aligned word pending. -/
theorem deviceLoadStep_of_loadingWord (he : exec i s = s.loadingWord ea fun x t => t.completeLoad rt (f x))
    (hu : ¬ s.userForbidden ea) (hd : s.regionOf (alignedWord ea) = .device)
    (hv : f (s.deviceAnswer (alignedWord ea) .word) = value) :
    ∃ t, exec i s = .next t ∧ DeviceLoadStep s t rt value (alignedWord ea) .word := by
  have hread : (s.memRead (alignedWord ea) .word).1 = s.deviceAnswer (alignedWord ea) .word :=
    congrArg Prod.fst (State.memRead_device hd .word)
  rw [he, State.loadingWord_next hu, hread, hv]
  exact State.completeLoad_device hd rt value

end

/-- Settles O16: the value read is zero-extended, so LB and LH extend its low bits again. -/
theorem alignedLoadsReadMemory : Obligations.AlignedLoadsReadMemory := by
  refine ⟨decodesAs_op 0x20#6 rfl ?_, decodesAs_op 0x24#6 rfl ?_, decodesAs_op 0x21#6 rfl ?_, decodesAs_op 0x25#6 rfl ?_,
    decodesAs_op 0x23#6 rfl ?_, fun s rt rs imm ea hea => ?operation⟩
  case operation =>
    obtain ⟨hbytes, hhalves, hword, _⟩ := addressErrorsBlockTheAccess s rt rs 0 imm ea hea
    subst hea
    refine ⟨fun hu => ⟨fun b hb => ?byte, fun v ha hv => ?half, fun v ha hv => ?word⟩,
      fun hu hd => ⟨?deviceLb, ?deviceLbu, fun ha => ?deviceHalf, fun ha => ?deviceWord⟩,
      fun h i hi => hbytes h i (List.mem_append_left _ hi), hhalves, hword⟩
    case byte =>
      have hr := State.memRead_byte hb
      exact ⟨loadStep_of_loading (exec_lb ..) (Nat.mod_one _) hu hr (by simp),
        loadStep_of_loading (exec_lbu ..) (Nat.mod_one _) hu hr (BitVec.setWidth_eq_append (by decide))⟩
    case half =>
      have hr := State.memRead_half (isAligned_half_of ha) hv
      exact ⟨loadStep_of_loading (exec_lh ..) ha hu hr (by simp),
        loadStep_of_loading (exec_lhu ..) ha hu hr (zimm_eq_append v)⟩
    case word => exact loadStep_of_loading (exec_lw ..) ha hu (State.memRead_word ha hv) rfl
    case deviceLb =>
      exact deviceLoadStep_of_loading (exec_lb ..) (Nat.mod_one _) hu hd
        (by rw [BitVec.setWidth_eq_extractLsb' (by decide)])
    case deviceLbu => exact deviceLoadStep_of_loading (exec_lbu ..) (Nat.mod_one _) hu hd rfl
    case deviceHalf =>
      exact ⟨deviceLoadStep_of_loading (exec_lh ..) ha hu hd (by rw [BitVec.setWidth_eq_extractLsb' (by decide)]),
        deviceLoadStep_of_loading (exec_lhu ..) ha hu hd rfl⟩
    case deviceWord => exact deviceLoadStep_of_loading (exec_lw ..) ha hu hd rfl
  all_goals exact fun w h => by unfold decode; rw [h]; rfl

/-! ### The merges of LWL and LWR (R830-R832) -/

/-- A table over the low two address bits, row by row. -/
theorem apply_byteLane {α : Type} (f : Nat → α) (ea : Word) :
    f (byteLane ea) = if ea.extractLsb' 0 2 = 0#2 then f 0 else if ea.extractLsb' 0 2 = 1#2 then f 1
      else if ea.extractLsb' 0 2 = 2#2 then f 2 else f 3 := by
  obtain ⟨c, hc⟩ := exists_eq_ofFin (ea.extractLsb' 0 2)
  rw [byteLane, hc]
  fin_cases c <;> rfl

theorem alignedWord_eq (ea : Word) : alignedWord ea = ea &&& 0xFFFFFFFC#32 := rfl

theorem State.mergeSource_eq (s : State) (t : Reg) :
    s.mergeSource t = if s.ld.pending = true ∧ s.ld.reg = t then s.ld.value else s.x t := by
  simp [State.mergeSource]

/-- Settles O17: the merge is read off its table, and its source is the latch as the step began. -/
theorem unalignedLoadsMerge : Obligations.UnalignedLoadsMerge := by
  refine ⟨decodesAs_op 0x22#6 rfl ?_, decodesAs_op 0x26#6 rfl ?_,
    fun s rt rs imm ea cur w l r hea hcur hl hr => ?operation⟩
  case operation =>
    obtain ⟨herr, _⟩ := addressErrorsBlockTheAccess s rt rs 0 imm ea hea
    have hl' : lwlMerge (byteLane ea) (s.mergeSource rt) w = l := by
      rw [s.mergeSource_eq, ← hcur, hl]
      exact apply_byteLane (lwlMerge · cur w) ea
    have hr' : lwrMerge (byteLane ea) (s.mergeSource rt) w = r := by
      rw [s.mergeSource_eq, ← hcur, hr]
      exact apply_byteLane (lwrMerge · cur w) ea
    rw [← alignedWord_eq]
    subst hea
    refine ⟨fun h i hi => herr h i (List.mem_append_right [_, _] hi),
      fun hu hw => ⟨loadStep_of_loadingWord (exec_lwl ..) hu hw hl', loadStep_of_loadingWord (exec_lwr ..) hu hw hr'⟩,
      fun hu hd hw => ?_⟩
    rw [hw] at hl' hr'
    exact ⟨deviceLoadStep_of_loadingWord (exec_lwl ..) hu hd hl', deviceLoadStep_of_loadingWord (exec_lwr ..) hu hd hr'⟩
  all_goals exact fun w h => by unfold decode; rw [h]; rfl

/-! ### The unaligned word (R832) -/

/-- Two words that hold the same byte agree there. -/
theorem State.byteOf_eq_of_holdsWord {s : State} {a b v w : Word} {j k : Nat} (hv : s.holdsWord a v) (hw : s.holdsWord b w)
    (hj : j < 4) (hk : k < 4) (h : a + BitVec.ofNat 32 j = b + BitVec.ofNat 32 k) : byteOf v j = byteOf w k :=
  Option.some.inj ((hv j hj).symm.trans (h ▸ hw k hk))

theorem eq_of_byteOf_eq {v w : Word} (h : ∀ k, k < 4 → byteOf v k = byteOf w k) : v = w := by
  rw [← bytes_append v, ← bytes_append w, h 0 (by decide), h 1 (by decide), h 2 (by decide), h 3 (by decide)]

/-- Four bytes put together hold each byte in its place. -/
theorem byteOf_append (b : Nat → Byte) {k : Nat} (hk : k < 4) : byteOf (b 3 ++ b 2 ++ b 1 ++ b 0) k = b k := by
  apply BitVec.eq_of_getLsbD_eq
  intro i hi
  simp only [byteOf, BitVec.getLsbD_append, BitVec.getLsbD_extractLsb']
  interval_cases k <;> interval_cases i <;> simp

theorem State.regionOf_aligned {s : State} (hp : s.params.wf) {a : Word} (ha : a.toNat % 4 = 0) {k : Nat} (hk : k < 4) :
    s.regionOf (a + BitVec.ofNat 32 k) = s.regionOf a := by
  unfold State.regionOf
  rw [phys_add (n := 4) (by simp) ha hk]
  exact route_aligned hp (phys_mod_four ha) hk

/-- An aligned word whose first byte is stored is stored whole (20_memory.md R224). -/
theorem State.exists_holdsWord {s : State} (hp : s.params.wf) {a : Word} (ha : a.toNat % 4 = 0)
    (h : s.regionOf a ≠ .device) : ∃ w, s.holdsWord a w := by
  refine ⟨s.storedValue (phys a) .word, fun k hk => ?_⟩
  rw [← State.regionOf_aligned hp ha hk, ← State.byteAt_isSome] at h
  obtain ⟨b, hb⟩ := Option.isSome_iff_exists.mp h
  have hread := hb
  rw [State.byteAt, phys_add (n := 4) (by simp) ha hk] at hread
  rw [hb, ← State.byteAt_of_storedByte hread]
  exact congrArg some (byteOf_append (fun j => s.storedByte (phys a + j)) hk).symm

theorem byteLane_eq (a : Word) : byteLane a = a.toNat % 4 := by simp [byteLane]

theorem byteLane_lt (a : Word) : byteLane a < 4 := (a.extractLsb' 0 2).isLt

/-- An address is its aligned word and its place in it. -/
theorem toNat_alignedWord_add_byteLane (a : Word) : (alignedWord a).toNat + byteLane a = a.toNat := by
  have h : alignedWord a = a >>> 2 <<< 2 := by
    apply BitVec.eq_of_getLsbD_eq
    intro i hi
    simp only [alignedWord]
    interval_cases i <;> simp
  have hlt := a.isLt
  rw [byteLane_eq, h, BitVec.toNat_shiftLeft, BitVec.toNat_ushiftRight, Nat.shiftLeft_eq, Nat.shiftRight_eq_div_pow]
  omega

/-- Counting on from an address and from its aligned word meet. -/
theorem alignedWord_add_eq {a b : Word} {d j k : Nat} (hb : b = a + BitVec.ofNat 32 d) (h : j + d = byteLane b + k) :
    alignedWord b + BitVec.ofNat 32 j = a + BitVec.ofNat 32 k := by
  have hsum := toNat_alignedWord_add_byteLane b
  have hto := congrArg BitVec.toNat hb
  apply BitVec.eq_of_toNat_eq
  rw [BitVec.toNat_add, BitVec.toNat_ofNat] at hto ⊢
  rw [BitVec.toNat_add, BitVec.toNat_ofNat]
  omega

/-- The aligned word under a stored byte is stored whole. -/
theorem State.exists_holdsWord_alignedWord {s : State} (hp : s.params.wf) {a : Word} {b : Byte} (h : s.byteAt a = some b) :
    ∃ w, s.holdsWord (alignedWord a) w := by
  have hlane : alignedWord a + BitVec.ofNat 32 (byteLane a) = a :=
    (alignedWord_add_eq (a := a) (d := 0) (k := 0) (by simp) rfl).trans (by simp)
  refine State.exists_holdsWord hp (alignedWord_mod a) ?_
  rw [← State.regionOf_aligned hp (alignedWord_mod a) (byteLane_lt a), hlane]
  exact State.regionOf_of_byteAt h

/-- The rows of LWR's table as one formula. -/
theorem lwrMerge_eq {n : Nat} (hn : n < 4) (cur w : Word) :
    lwrMerge n cur w = (cur &&& ~~~(BitVec.allOnes 32 >>> (8 * n))) ||| (w >>> (8 * n)) := by
  interval_cases n
  · simp [lwrMerge]
  all_goals rfl

/-- The rows of LWL's table as one formula. -/
theorem lwlMerge_eq {n : Nat} (hn : n < 4) (cur w : Word) :
    lwlMerge n cur w = (cur &&& (BitVec.allOnes 32 >>> (8 * n + 8))) ||| (w <<< (24 - 8 * n)) := by
  interval_cases n
  on_goal 4 => simp [lwlMerge]
  all_goals rfl

/-! Below, `allOnes` is kept from being evaluated: the library reads a bit of it at any index, but of a literal at a fixed
one only. -/

/-- LWR brings the bytes from the address up to the end of its aligned word in at the bottom (R832). -/
theorem byteOf_lwrMerge {n k : Nat} (hn : n < 4) (hk : k < 4) (cur w : Word) :
    byteOf (lwrMerge n cur w) k = if n + k < 4 then byteOf w (n + k) else byteOf cur k := by
  apply BitVec.eq_of_getLsbD_eq
  intro i hi
  rw [lwrMerge_eq hn]
  split_ifs with h
  · have h1 : 8 * n + (8 * k + i) < 32 := by omega
    have h2 : 8 * (n + k) + i = 8 * n + (8 * k + i) := by omega
    simp [byteOf, hi, h1, h2, -BitVec.reduceAllOnes]
  · have h1 : ¬ 8 * n + (8 * k + i) < 32 := by omega
    have h2 : 8 * k + i < 32 := by omega
    simp [byteOf, hi, h1, h2, BitVec.getLsbD_of_ge w _ (not_lt.mp h1), -BitVec.reduceAllOnes]

/-- LWL brings the bytes from the start of the aligned word up to the address in at the top (R831). -/
theorem byteOf_lwlMerge {n k : Nat} (hn : n < 4) (hk : k < 4) (cur w : Word) :
    byteOf (lwlMerge n cur w) k = if 3 ≤ n + k then byteOf w (n + k - 3) else byteOf cur k := by
  apply BitVec.eq_of_getLsbD_eq
  intro i hi
  rw [lwlMerge_eq hn]
  have h0 : 8 * k + i < 32 := by omega
  split_ifs with h
  · have h1 : ¬ 8 * n + 8 + (8 * k + i) < 32 := by omega
    have h2 : ¬ 8 * k + i < 24 - 8 * n := by omega
    have h3 : 8 * (n + k - 3) + i = 8 * k + i - (24 - 8 * n) := by omega
    have h4 : 8 * k + i - (24 - 8 * n) < 32 := by omega
    simp [byteOf, hi, h0, h1, h2, h3, h4, -BitVec.reduceAllOnes]
  · have h1 : 8 * n + 8 + (8 * k + i) < 32 := by omega
    have h2 : 8 * k + i < 24 - 8 * n := by omega
    simp [byteOf, hi, h0, h1, h2, -BitVec.reduceAllOnes]

/-- The two merges of the idiom put the unaligned word together: LWR brings in its bytes up to the end of the first aligned
word, LWL the rest. -/
theorem State.lwlMerge_lwrMerge {s : State} {ea w lo hi : Word} (hw : s.holdsWord ea w)
    (hlo : s.holdsWord (alignedWord ea) lo) (hhi : s.holdsWord (alignedWord (ea + 3#32)) hi) (cur : Word) :
    lwlMerge (byteLane (ea + 3#32)) (lwrMerge (byteLane ea) cur lo) hi = w := by
  have hn := byteLane_lt ea
  have hm := byteLane_lt (ea + 3#32)
  refine eq_of_byteOf_eq fun k hk => ?_
  rw [byteOf_lwlMerge hm hk, byteOf_lwrMerge hn hk]
  split_ifs with h1 h2
  · exact State.byteOf_eq_of_holdsWord hhi hw (by omega) hk (alignedWord_add_eq rfl (by omega))
  · exact State.byteOf_eq_of_holdsWord hlo hw h2 hk (alignedWord_add_eq (d := 0) (by simp) rfl)
  · have hlane : byteLane (ea + 3#32) = (byteLane ea + 3) % 4 := by
      rw [byteLane_eq, byteLane_eq, BitVec.toNat_add, BitVec.toNat_ofNat]
      omega
    omega

/-- A load that follows no load changes no register. -/
theorem LoadsReg.x_eq {s t : State} {d : Reg} {v : Word} (h : LoadsReg s t d v) (hp : s.ld.pending = false) (r : Reg) :
    t.x r = s.x r := by
  obtain ⟨_, hd, hrest⟩ := h
  by_cases hr : r = d
  · rw [hr, hd]
  · rw [hrest r hr, State.arrived, hp]
    by_cases h0 : r = 0 <;> simp [h0]

theorem State.mergeSource_of_pending {s : State} {t : Reg} {v : Word} (h : s.ld = ⟨true, t, v⟩) : s.mergeSource t = v := by
  simp [State.mergeSource, h]

theorem State.userForbidden_congr {s t : State} (h : KeepsCop0 s t) (a : Word) : t.userForbidden a ↔ s.userForbidden a := by
  rw [State.userForbidden, State.userForbidden, h]

theorem State.holdsWord_congr {s t : State} (h : ∀ b : Word, t.byteAt b = s.byteAt b) {a w : Word} (hw : s.holdsWord a w) :
    t.holdsWord a w := fun k hk => (h _).trans (hw k hk)

/-- LWL three bytes on from an unaligned word, in a state where LWR at that word has left its merge pending. -/
theorem exec_lwl_after_lwr {s : State} {rt rs : Reg} {imm : BitVec 16} {ea w lo cur : Word} (hp : s.params.wf)
    (hw : s.holdsWord ea w) (hlo : s.holdsWord (alignedWord ea) lo)
    (hld : s.ld = ⟨true, rt, lwrMerge (byteLane ea) cur lo⟩) (hea : s.ea rs imm = ea + 3#32)
    (hu : ¬ s.userForbidden (ea + 3#32)) : ∃ t, exec (.lwl rt rs imm) s = .next t ∧ LoadStep s t rt w 0 := by
  obtain ⟨hi, hhi⟩ := State.exists_holdsWord_alignedWord hp (hw 3 (by decide))
  have he := exec_lwl rt rs imm s
  rw [hea, State.mergeSource_of_pending hld] at he
  exact loadStep_of_loadingWord he hu hhi (State.lwlMerge_lwrMerge hw hlo hhi cur)

/-- Settles O18: the two merges put the word together, and LWL's source is the load that LWR left pending. -/
theorem lwrThenLwlLoadsUnalignedWord : Obligations.LwrThenLwlLoadsUnalignedWord := by
  rintro s rt rs imm imm3 _ w hp hld rfl himm hu hu3 hw
  have hfirst := hw 0 (by decide)
  rw [BitVec.add_zero] at hfirst
  obtain ⟨lo, hlo⟩ := State.exists_holdsWord_alignedWord hp hfirst
  obtain ⟨t, ht, hlwr⟩ := loadStep_of_loadingWord (exec_lwr rt rs imm s) hu hlo rfl
  have hbytes : ∀ b : Word, t.byteAt b = s.byteAt b := hlwr.memory.1
  have hea : t.x rs + imm3.signExtend 32 = s.x rs + imm.signExtend 32 + 3#32 := by
    rw [hlwr.regs.x_eq hld, himm, BitVec.add_assoc]
  obtain ⟨u, hu, hlwl⟩ := exec_lwl_after_lwr (s := { t with currentPc := t.pc, pc := t.pc + 4#32 })
    (hlwr.book.2.2 ▸ hp) (State.holdsWord_congr hbytes hw) (State.holdsWord_congr hbytes hlo) hlwr.regs.1 hea
    ((State.userForbidden_congr hlwr.cop0 _).not.mpr hu3)
  exact ⟨t, u, ht, hu, hlwl.regs.1⟩

/-! ### The stores (R840-R842, R850, R851) -/

section

variable {s : State} {i : Instr} {w : Width} {ea v : Word} {mask : BitVec 4}

/-- An aligned store changes its bytes or is one device write. -/
theorem stores_of_storing (he : exec i s = s.storing w ea v) (hp : s.params.wf) (hm : s.mem.wf)
    (ha : ea.toNat % w.bytes = 0) (hu : ¬ s.userForbidden ea) : ∃ t, exec i s = .next t ∧ t.draws = s.draws ∧
      Stores s t ea w.bytes (fun _ => true) (byteOf v) (.write (phys ea) w (lowBytes w v)) := by
  obtain ⟨t, ht, hstores, hdraws⟩ := State.storing_spec hp hm (isAligned_iff.mpr ha) (State.userBlocked_false hu) v
  exact ⟨t, he.trans ht, hdraws, hstores⟩

/-- An unaligned store changes the enabled bytes of the aligned word or is one masked device write. -/
theorem stores_of_storingMasked (he : exec i s = s.storingMasked ea v mask) (hp : s.params.wf) (hm : s.mem.wf)
    (hu : ¬ s.userForbidden ea) : ∃ t, exec i s = .next t ∧ t.draws = s.draws ∧
      Stores s t (alignedWord ea) 4 (fun k => mask.getLsbD k) (byteOf v)
        (.writeMasked (phys (alignedWord ea)) v mask) := by
  obtain ⟨t, ht, hstores, hdraws⟩ := State.storingMasked_spec hp hm (State.userBlocked_false hu) v mask
  exact ⟨t, he.trans ht, hdraws, hstores⟩

end

/-- Settles O19: each width's store is the one operation, at the width's alignment. -/
theorem alignedStoresWriteBytes : Obligations.AlignedStoresWriteBytes := by
  refine ⟨decodesAs_op 0x28#6 rfl ?_, decodesAs_op 0x29#6 rfl ?_, decodesAs_op 0x2B#6 rfl ?_,
    fun s rt rs imm ea hp hm hea => ?operation⟩
  case operation =>
    obtain ⟨_, _, _, _, hbytes, hhalf, hword, _⟩ := addressErrorsBlockTheAccess s rt rs 0 imm ea hea
    subst hea
    exact ⟨fun h => hbytes h _ List.mem_cons_self, hhalf, hword,
      fun hu => stores_of_storing (exec_sb ..) hp hm (Nat.mod_one _) hu,
      fun hu ha => stores_of_storing (exec_sh ..) hp hm ha hu,
      fun hu ha => stores_of_storing (exec_sw ..) hp hm ha hu⟩
  all_goals exact fun w h => by unfold decode; rw [h]; rfl

/-- Settles O20: the shifted register and the byte enables are read off their tables together. -/
theorem unalignedStoresWriteMaskedBytes : Obligations.UnalignedStoresWriteMaskedBytes := by
  refine ⟨decodesAs_op 0x2A#6 rfl ?_, decodesAs_op 0x2E#6 rfl ?_,
    fun s rt rs imm ea a l r hp hm hea ha hl hr => ?operation⟩
  case operation =>
    obtain ⟨_, _, _, _, herr, _⟩ := addressErrorsBlockTheAccess s rt rs 0 imm ea hea
    rw [← alignedWord_eq] at ha
    replace hl := hl.trans (apply_byteLane (fun n => (swlValue n (s.x rt), swlMask n)) ea).symm
    replace hr := hr.trans (apply_byteLane (fun n => (swrValue n (s.x rt), swrMask n)) ea).symm
    subst hea ha hl hr
    exact ⟨fun h i hi => herr h i (List.mem_cons_of_mem _ hi),
      fun hu => stores_of_storingMasked (exec_swl ..) hp hm hu, fun hu => stores_of_storingMasked (exec_swr ..) hp hm hu⟩
  all_goals exact fun w h => by unfold decode; rw [h]; rfl

/-! ### The COP0 forms (R860, R861) -/

/-- LWC0, where its checks pass, changes the COP0 bank of the state after the read, and nothing else there. -/
theorem exec_lwc0_spec {s : State} {rs : Reg} {imm : BitVec 16} (hc : s.cop0Usable) (ha : (s.ea rs imm).toNat % 4 = 0)
    (hu : ¬ s.userForbidden (s.ea rs imm)) (cr : CopReg) : ∃ t, exec (.lwc0 cr rs imm) s = .next t ∧
      Cop0Step (s.memRead (s.ea rs imm) .word).2 t (s.cop0.written cr (s.memRead (s.ea rs imm) .word).1) := by
  rw [exec_lwc0_usable hc, State.loading_next (isAligned_word_of ha) (State.userBlocked_false hu),
    ← State.memRead_cop0 s (s.ea rs imm) .word, ← State.cop0Write_cop0]
  exact ⟨_, rfl, State.cop0Step_of (by simp) (by simp) (by simp) (by simp) (by simp) ⟨by simp, by simp⟩ (by simp) (by simp)
    ⟨by simp, by simp, by simp⟩ (by simp)⟩

/-- Settles O22: a stored word is read without a change, and a device read changes the history and the draws only. -/
theorem lwc0WritesCop0 : Obligations.Lwc0WritesCop0 := by
  refine ⟨decodesAs_op 0x30#6 rfl fun w h => by unfold decode; rw [h]; rfl, fun s cr rs imm ea hea =>
    ⟨checksCop0_of_withCop0 (exec_lwc0 cr rs imm s), ?_, fun hc ha hu v hv => ?stored, fun hc ha hu hd => ?device⟩⟩
  · obtain ⟨_, _, _, herr, _⟩ := addressErrorsBlockTheAccess s 0 rs cr imm ea hea
    exact herr
  all_goals
    subst hea
    obtain ⟨t, ht, hstep⟩ := exec_lwc0_spec hc ha hu cr
  case stored =>
    rw [State.ea, simm, State.memRead_word ha hv] at hstep
    exact ⟨t, ht, hstep⟩
  case device =>
    rw [State.ea, simm, State.memRead_device hd] at hstep
    exact ⟨t, ht, hstep.bank, hstep.regs, hstep.control, hstep.age, hstep.hilo, hstep.book, hstep.memory.1,
      hstep.memory.2, hstep.draws⟩

/-- A read of the COP0 bank changes the draws at most. -/
theorem State.cop0Read_snd (s : State) (i : CopReg) : (s.cop0Read i).2 = if i = 6 then s.drawn else s := by
  obtain ⟨i, hi⟩ := i
  interval_cases i <;> rfl

/-- SWC0, where its checks pass, is a word store of the shown value from the state after the accessor's read, whose COP0
bank the address check sees unchanged. -/
theorem exec_swc0_next {s : State} {rs : Reg} {imm : BitVec 16} (hc : s.cop0Usable) (ha : (s.ea rs imm).toNat % 4 = 0)
    (hu : ¬ s.userForbidden (s.ea rs imm)) (cr : CopReg) : exec (.swc0 cr rs imm) s =
      (s.cop0Read cr).2.storing .word (s.ea rs imm) (s.cop0.shown (Config.drawTar s.draws) cr) := by
  have hs := State.userBlocked_false hu
  have hread : (s.cop0Read cr).2.userBlocked (s.ea rs imm) = false := by rwa [State.userBlocked, State.cop0Read_cop0]
  rw [exec_swc0, State.withCop0_usable (State.cop0Blocked_false hc), State.cop0Read_fst]
  simp [State.storing, isAligned_word_of ha, hs, hread]

/-- No term of a store's effect speaks of the draws made before it. -/
theorem Stores.of_drawn {s t : State} {a : Word} {n : Nat} {on : Nat → Bool} {byte : Nat → Byte} {e : DeviceEvent}
    (h : Stores s.drawn t a n on byte e) : Stores s t a n on byte e :=
  ⟨⟨h.rest.regs, h.rest.control, h.rest.age, h.rest.hilo, h.rest.cop0, h.rest.book⟩, h.bytes, h.events⟩

/-- Settles O23: the accessor's read changes the draws at most, so the store is one from the state the step began in. -/
theorem swc0StoresCop0 : Obligations.Swc0StoresCop0 := by
  refine ⟨decodesAs_op 0x38#6 rfl fun w h => by unfold decode; rw [h]; rfl, fun s cr rs imm ea v hp hm hea hv =>
    ⟨checksCop0_of_withCop0 (exec_swc0 cr rs imm s), ?_, fun hc ha hu => ?store⟩⟩
  · obtain ⟨_, _, _, _, _, _, _, herr⟩ := addressErrorsBlockTheAccess s 0 rs cr imm ea hea
    exact herr
  case store =>
    subst hea hv
    have hu' : ¬ (s.cop0Read cr).2.userForbidden (s.ea rs imm) :=
      (State.userForbidden_congr (State.cop0Read_cop0 s cr) _).not.mpr hu
    obtain ⟨t, ht, hstores, hdraws⟩ := State.storing_spec (s := (s.cop0Read cr).2) (by rwa [State.cop0Read_params])
      (by rwa [State.cop0Read_mem]) (isAligned_word_of ha) (State.userBlocked_false hu')
      (s.cop0.shown (Config.drawTar s.draws) cr)
    refine ⟨t, (exec_swc0_next hc ha hu cr).trans ht, hdraws.trans (State.cop0Read_snd_draws s cr), ?_⟩
    rw [State.cop0Read_snd] at hstores
    split_ifs at hstores
    · exact hstores.of_drawn
    · exact hstores

end Sys2Proof.Machine
end

section
/-! PROOFS. The system and coprocessor family (45_system_cop.md): the COP0 usability check, the COP0 no-ops, RFE, the system
calls, and the other coprocessors. -/

namespace Sys2Proof.Machine

/-! ### The exceptions an instruction raises itself -/

/-- An instruction that raises an exception without a faulting address enters it and leaves BadVaddr alone
(60_exceptions.md R1022). -/
theorem enteredPlain_of_raise {s : State} {i : Instr} {e : Exc} (h : exec i s = s.raise e)
    (hb : e.badVaddr s.cop0.badVaddr = s.cop0.badVaddr) :
    ∃ t, exec i s = .next t ∧ EnteredPlain s t e.code s.currentPc :=
  ⟨_, h, s.takeException_spec e s.currentPc, hb⟩

/-- An instruction that raises CpU(n) enters it with the coprocessor in CAUSE.CE (60_exceptions.md R1010). -/
theorem enteredCpU_of_raise {s : State} {i : Instr} {n : BitVec 2} (h : exec i s = s.raise (.cpU n)) :
    ∃ t, exec i s = .next t ∧ EnteredPlain s t 11#5 s.currentPc ∧ Cause.ce t.cop0.cause = n :=
  ⟨_, h, ⟨s.takeException_spec (.cpU n) s.currentPc, rfl⟩, Cause.enter_ce ..⟩

/-- Settles O33: the two are one raise each, which no field of the word reaches. -/
theorem syscallAndBreakTakeTheirException : Obligations.SyscallAndBreakTakeTheirException := by
  refine ⟨decodesAs_funct 0x0C#6 rfl rfl ?_, decodesAs_funct 0x0D#6 rfl rfl ?_, fun s code =>
    ⟨enteredPlain_of_raise (e := .sys) rfl rfl, enteredPlain_of_raise (e := .bp) rfl rfl⟩⟩
  all_goals exact fun w h => by unfold decodeSpecial; rw [h]; rfl

/-! ### COP1, COP2 and COP3 (R930, R931) -/

/-- Settles O35: the check reads no bit of SR. -/
theorem cop1AndCop3AreUnusable : Obligations.Cop1AndCop3AreUnusable := by
  refine ⟨decodesAs_op 0x11#6 rfl ?_, decodesAs_op 0x31#6 rfl ?_, decodesAs_op 0x39#6 rfl ?_, decodesAs_op 0x13#6 rfl ?_,
    decodesAs_op 0x33#6 rfl ?_, decodesAs_op 0x3B#6 rfl ?_, fun s => ?operation⟩
  case operation =>
    simp only [List.forall_mem_cons]
    exact ⟨⟨enteredCpU_of_raise rfl, enteredCpU_of_raise rfl, enteredCpU_of_raise rfl, List.forall_mem_nil _⟩,
      enteredCpU_of_raise rfl, enteredCpU_of_raise rfl, enteredCpU_of_raise rfl, List.forall_mem_nil _⟩
  all_goals exact fun w h => by unfold decode; rw [h]; rfl

/-- COP2, LWC2 and SWC2 share one meaning. -/
theorem exec_of_mem_cop2 (s : State) : ∀ i ∈ [Instr.cop2, .lwc2, .swc2], exec i s = s.cop2 := by
  simp only [List.forall_mem_cons]
  exact ⟨rfl, rfl, rfl, List.forall_mem_nil _⟩

theorem State.cop2_unusable {s : State} (h : s.cop0.sr.getLsbD 30 = false) : s.cop2 = s.raise (.cpU 2#2) :=
  if_neg (Bool.eq_false_iff.mp h)

theorem State.cop2_usable {s : State} (h : s.cop0.sr.getLsbD 30 = true) : s.cop2 = .refused .cop2NotModelled := if_pos h

/-- Settles O36: the shared meaning is decided by CU2 alone. -/
theorem cop2TrapsOrIsRefused : Obligations.Cop2TrapsOrIsRefused := by
  refine ⟨decodesAs_op 0x12#6 rfl ?_, decodesAs_op 0x32#6 rfl ?_, decodesAs_op 0x3A#6 rfl ?_, fun s i hi => ?operation⟩
  case operation =>
    have he : exec i s = s.cop2 := exec_of_mem_cop2 s i hi
    exact ⟨fun h => enteredCpU_of_raise (he.trans (State.cop2_unusable h)), fun h => he.trans (State.cop2_usable h)⟩
  all_goals exact fun w h => by unfold decode; rw [h]; rfl

/-! ### The usability check of COP0 (R900, R901) -/

/-- Every COP0 instruction makes the usability check before anything else. -/
theorem exec_of_isCop0Instr {i : Instr} (h : isCop0Instr i = true) (s : State) : ∃ k, exec i s = s.withCop0 k := by
  cases i
  all_goals cases h
  all_goals exact ⟨_, rfl⟩

theorem isCop0Instr_decodeCop0 (w : Word) : isCop0Instr (decodeCop0 w) = true := by
  unfold decodeCop0
  split
  -- The arms of rs = 0x08 and of the commands test one more field.
  case h_9 | h_17 => split_ifs <;> rfl
  all_goals rfl

/-- The primary opcodes of R900: COP0, LWC0 and SWC0. -/
theorem isCop0Instr_decode {w : Word} (h : opField w = 0x10#6 ∨ opField w = 0x30#6 ∨ opField w = 0x38#6) :
    isCop0Instr (decode w) = true := by
  rcases h with h | h | h
  · rw [decode_cop0 h]
    exact isCop0Instr_decodeCop0 w
  all_goals
    unfold decode
    rw [h]
    rfl

theorem State.not_cop0Usable {s : State} (hu : s.cop0.sr.getLsbD 1 = true) (hc : s.cop0.sr.getLsbD 28 = false) :
    ¬ s.cop0Usable := by
  rw [State.cop0Usable, hu, hc]
  decide

/-- Settles O31: the check comes first in each of them, and it fails. -/
theorem cop0UnusableInUserMode : Obligations.Cop0UnusableInUserMode := by
  refine ⟨fun w h => isCop0Instr_decode h, fun i s hi hu hc => ?_⟩
  obtain ⟨k, hk⟩ := exec_of_isCop0Instr hi s
  exact checksCop0_of_withCop0 hk (State.not_cop0Usable hu hc)

/-! ### The instructions that end in a new COP0 bank or in the old one -/

/-- An instruction guarded by the usability check that asks for a new COP0 bank and no more changes nothing else. -/
theorem cop0Step_of_exec {s : State} {i : Instr} {c : Cop0} (he : exec i s = s.withCop0 ((s.setCop0 c).complete { }))
    (hu : s.cop0Usable) : ∃ t, exec i s = .next t ∧ Cop0Step s t c :=
  ⟨_, he.trans (State.withCop0_usable (State.cop0Blocked_false hu) _),
    State.cop0Step_of rfl rfl rfl rfl rfl ⟨rfl, rfl⟩ rfl rfl ⟨rfl, rfl, rfl⟩ rfl⟩

/-! ### The no-ops (R912-R915, R921) -/

/-- A COP0 row selected by its rs and rt fields. -/
theorem decodesAs_rsRt {v : Word} {f : Word → Instr} (a b : BitVec 5) (ho : opField v = 0x10#6) (hs : rsBits v = a)
    (ht : rtBits v = b) (hf : ∀ w, rsBits w = a → rtBits w = b → decodeCop0 w = f w) : DecodesAs 0xFFFF0000#32 v f :=
  fun w h => by
    rw [decode_cop0 (by rw [← opField_and_rsRtMask, h, ho])]
    exact hf w (by rw [← rsBits_and_rsRtMask, h, hs]) (by rw [← rtBits_and_rsRtMask, h, ht])

/-- A COP0 command word whose function is not that of RFE. -/
theorem decode_cop0Generic {w : Word} (h : w &&& 0xFE000000#32 = 0x42000000#32) (hf : functField w ≠ 0x10#6) :
    decode w = .cop0Generic (functField w) :=
  decode_of_cmd_masked h fun hr => hf (by rw [← functField_and_cmdFunctMask, hr]; rfl)

/-- The no-ops share one meaning: the usability check, then the COP0 bank as it is. -/
theorem exec_of_mem_cop0NoOps (rt : Reg) (cr : CopReg) (imm : BitVec 16) (funct : BitVec 6) (s : State) :
    ∀ i ∈ [Instr.bc0f imm, .bc0t imm, .cfc0 rt cr, .ctc0 rt cr, .cop0Generic funct],
      exec i s = s.withCop0 ((s.setCop0 s.cop0).complete { }) := by
  simp only [List.forall_mem_cons]
  exact ⟨rfl, rfl, rfl, rfl, rfl, List.forall_mem_nil _⟩

/-- Settles O29. -/
theorem cop0NoOpsChangeNothing : Obligations.Cop0NoOpsChangeNothing := by
  refine ⟨decodesAs_rsRt 0x08#5 0x00#5 rfl rfl rfl ?bc0f, decodesAs_rsRt 0x08#5 0x01#5 rfl rfl rfl ?bc0t,
    decodesAs_rs 0x02#5 rfl rfl ?_, decodesAs_rs 0x06#5 rfl rfl ?_, fun w h hf => decode_cop0Generic h hf,
    fun s rt cr imm funct _ i hi => ?operation⟩
  case operation =>
    have he := exec_of_mem_cop0NoOps rt cr imm funct s i hi
    exact ⟨checksCop0_of_withCop0 he, cop0Step_of_exec he⟩
  case bc0f | bc0t => exact fun w hs ht => by unfold decodeCop0; rw [hs, ht]; rfl
  all_goals exact fun w h => by unfold decodeCop0; rw [h]; rfl

/-! ### The mode stack of SR (R920, 60_exceptions.md R1020) -/

/-- RFE brings each bit of the previous and old pairs two places down. -/
theorem Sr.pop_getLsbD_of_lt {i : Nat} (h : i < 4) (sr : Word) : (Sr.pop sr).getLsbD i = sr.getLsbD (i + 2) := by
  simp only [Sr.pop]
  interval_cases i <;> simp

/-- From bit 4 on RFE leaves SR alone. -/
theorem Sr.pop_getLsbD_of_le {i : Nat} (h : 4 ≤ i) (sr : Word) : (Sr.pop sr).getLsbD i = sr.getLsbD i := by
  by_cases hi : i < 32
  · simp only [Sr.pop]
    interval_cases i <;> simp
  · rw [BitVec.getLsbD_of_ge _ _ (not_lt.mp hi), BitVec.getLsbD_of_ge _ _ (not_lt.mp hi)]

theorem Sr.pop_pairs (sr : Word) : (Sr.pop sr).extractLsb' 0 4 = sr.extractLsb' 2 4 := by
  apply BitVec.eq_of_getLsbD_eq
  intro i hi
  rw [BitVec.getLsbD_extractLsb', BitVec.getLsbD_extractLsb', Sr.pop_getLsbD_of_lt (by omega), Nat.zero_add,
    Nat.add_comm i 2]

/-- A field of SR from bit 4 on is the same after RFE. -/
theorem Sr.pop_field {k : Nat} (h : 4 ≤ k) (n : Nat) (sr : Word) : (Sr.pop sr).extractLsb' k n = sr.extractLsb' k n := by
  apply BitVec.eq_of_getLsbD_eq
  intro i hi
  rw [BitVec.getLsbD_extractLsb', BitVec.getLsbD_extractLsb', Sr.pop_getLsbD_of_le (by omega)]

/-- Exception entry enters kernel mode (60_exceptions.md R1061). -/
theorem Sr.push_kuc (sr : Word) : (Sr.push sr).getLsbD 1 = false := by simp [Sr.push]

/-- Exception entry moves each field of the current and previous pairs two places up. -/
theorem Sr.push_field {k n : Nat} (h : k + n ≤ 4) (sr : Word) :
    (Sr.push sr).extractLsb' (k + 2) n = sr.extractLsb' k n := by
  have hbit : ∀ j < 4, (Sr.push sr).getLsbD (j + 2) = sr.getLsbD j := by
    intro j hj
    simp only [Sr.push]
    interval_cases j <;> simp
  apply BitVec.eq_of_getLsbD_eq
  intro i hi
  rw [BitVec.getLsbD_extractLsb', BitVec.getLsbD_extractLsb', Nat.add_right_comm, hbit _ (by omega)]

/-! ### RFE -/

theorem exec_rfe (s : State) :
    exec .rfe s = s.withCop0 ((s.setCop0 { s.cop0 with sr := Sr.pop s.cop0.sr }).complete { }) := rfl

/-- Settles O30: the bank is the old one with SR popped, and the next state's tests read the popped SR. -/
theorem rfePopsModeStack : Obligations.RfePopsModeStack := by
  refine ⟨fun w h => decode_of_rfe_masked h, fun s => ⟨checksCop0_of_withCop0 (exec_rfe s), fun hu => ?_⟩⟩
  obtain ⟨t, ht, hstep⟩ := cop0Step_of_exec (exec_rfe s) hu
  have hbank := hstep.bank
  refine ⟨t, ht, ?_, ?_, ?_, ?_, fun a => ?_⟩
  · rwa [hbank]
  · rw [hbank, Sr.pop_pairs]
  · rw [hbank, Sr.pop_field (by decide)]
  · rw [State.interruptTaken_iff, hbank, Sr.pop_getLsbD_of_lt (by decide), Sr.pop_field (by decide)]
  · rw [State.userForbidden, hbank, Sr.pop_getLsbD_of_lt (by decide)]

/-- Exception entry makes COP0 usable, since it enters kernel mode. -/
theorem State.takeException_cop0Usable (s : State) (e : Exc) (v : Word) : (s.takeException e v).cop0Usable :=
  .inl (Sr.push_kuc s.cop0.sr)

/-- Settles O44: RFE is usable there, and popping what was pushed gives the two pairs back. -/
theorem rfeUndoesExceptionEntry : Obligations.RfeUndoesExceptionEntry := by
  intro s e v
  obtain ⟨t, ht, hstep⟩ := cop0Step_of_exec (exec_rfe _) (s.takeException_cop0Usable e v)
  have hsr : t.cop0.sr = Sr.pop (Sr.push s.cop0.sr) := congrArg Cop0.sr hstep.bank
  refine ⟨t, ht, ?_, ?_, ?_⟩ <;> rw [hsr]
  · rw [Sr.pop_pairs, Sr.push_field (k := 0) (by decide)]
  · rw [Sr.pop_field (by decide), Sr.push_field (k := 2) (by decide)]
  · rw [Sr.pop_field (by decide), Sr.push_high]

end Sys2Proof.Machine
end

section
/-! PROOFS. The exception family (60_exceptions.md): what exception entry leaves in every piece of state, the codes it sets,
the way out of user mode, and the interrupt lines. -/

namespace Sys2Proof.Machine

/-! ### From user mode into the kernel (R1061, R1063) -/

/-- Where COP0 is not usable, no instruction changes the COP0 bank before the end of its step (45_system_cop.md R901). -/
theorem Middle.cop0_of_blocked {s u : State} (h : Middle s u) (hb : s.cop0Blocked = true) : u.cop0 = s.cop0 :=
  h.cop0.resolve_right fun ⟨hu, _⟩ => Bool.eq_false_iff.mp hu hb

/-- Where COP0 is not usable, a step keeps the whole COP0 bank unless it enters an exception. -/
theorem step_entersFrom_or_keepsCop0 {s t : State} (hb : s.cop0Blocked = true) (h : step s = .next t) :
    EntersFrom s t ∨ KeepsCop0 s t := by
  rcases step_entersFrom_or_completes h with hx | ⟨u, e, hu, rfl, _⟩
  · exact .inl hx
  · have hfetch : s.afterFetch.cop0Blocked = true := by rwa [State.cop0Blocked, State.afterFetch_cop0]
    have hbank : u.cop0 = s.cop0 := (hu.cop0_of_blocked hfetch).trans s.afterFetch_cop0
    exact .inr ((u.retire_cop0 e).trans hbank)

/-- Settles O45: the COP0 writes and RFE are blocked, so a step that changes the bank enters an exception; its entry from
the state before or after the fetch is that of R1020 from the bank the step began with. -/
theorem userModeReachesKernelByExceptionsOnly : Obligations.UserModeReachesKernelByExceptionsOnly := by
  intro s t hu hc h
  rcases step_entersFrom_or_keepsCop0 (State.cop0Blocked_true (State.not_cop0Usable hu hc)) h with hx | hkeep
  · obtain ⟨u, e, hbank, _, rfl⟩ := hx
    have hentered := u.takeException_spec e s.pc
    obtain ⟨hkernel, hdisabled⟩ := hentered.kernel
    obtain ⟨hprid, hgen⟩ := hentered.other
    have hrest := hentered.statusRest
    have hpc := hentered.pc
    rw [hbank] at hprid hgen hrest hpc
    exact .inr ⟨hkernel, hdisabled, hrest, hgen, hprid, hpc⟩
  · exact .inl hkeep

/-! ### Exception entry (R1020-R1022) -/

/-- Settles O37: the entry is one for all exceptions; what is left is BadVaddr, and CE for CpU. -/
theorem exceptionEntryFollowsTheSpec : Obligations.ExceptionEntryFollowsTheSpec := by
  intro s v
  refine ⟨fun e code h => ?plain, fun n => ⟨⟨s.takeException_spec (.cpU n) v, rfl⟩, Cause.enter_ce ..⟩,
    fun a => ⟨s.takeException_spec (.adEL a) v, rfl⟩, fun a => ⟨s.takeException_spec (.adES a) v, rfl⟩⟩
  case plain =>
    have hplain : e.code = code ∧ e.badVaddr s.cop0.badVaddr = s.cop0.badVaddr := by
      simp only [List.mem_cons, List.not_mem_nil, or_false, Prod.mk.injEq] at h
      rcases h with ⟨rfl, rfl⟩ | ⟨rfl, rfl⟩ | ⟨rfl, rfl⟩ | ⟨rfl, rfl⟩ | ⟨rfl, rfl⟩ <;> exact ⟨rfl, rfl⟩
    obtain ⟨rfl, hbad⟩ := hplain
    exact ⟨s.takeException_spec e v, hbad⟩

/-- Settles O38: each clause decides the delay-slot test, which BD and EPC follow. -/
theorem delaySlotExceptionsSaveTheBranch : Obligations.DelaySlotExceptionsSaveTheBranch := by
  intro s e v
  have hentered := s.takeException_spec e v
  have hin (hd : s.inDelaySlot = true) :
      Cause.bd (s.takeException e v).cop0.cause = true ∧ (s.takeException e v).cop0.epc = v - 4#32 :=
    ⟨hentered.branchDelay.trans hd, hentered.epc.trans (if_pos hd)⟩
  have hout (hd : s.inDelaySlot = false) :
      Cause.bd (s.takeException e v).cop0.cause = false ∧ (s.takeException e v).cop0.epc = v :=
    ⟨hentered.branchDelay.trans hd, hentered.epc.trans (if_neg (Bool.eq_false_iff.mp hd))⟩
  refine ⟨fun hp => hin ?_, fun hp hb hs => hin ?_, fun hp hbs => hout ?_⟩
  · simp [State.inDelaySlot, hp]
  · simp [State.inDelaySlot, hb, hs]
  · rcases hbs with hb | hs
    · simp [State.inDelaySlot, hp, hb]
    · simp [State.inDelaySlot, hp, hs]

/-! ### The exception codes (R1000) -/

/-- Words that agree under a mask agree in every field the mask covers. -/
theorem field_eq_of_and_eq {a b m : Word} {k n : Nat} (h : a &&& m = b &&& m) (hm : m.extractLsb' k n = BitVec.allOnes n) :
    a.extractLsb' k n = b.extractLsb' k n := by
  have hfield := congrArg (BitVec.extractLsb' k n) h
  rwa [BitVec.extractLsb'_and, BitVec.extractLsb'_and, hm, BitVec.and_allOnes, BitVec.and_allOnes] at hfield

theorem Exc.code_mem (e : Exc) : e.code ∈ [0#5, 4#5, 5#5, 8#5, 9#5, 10#5, 11#5, 12#5] := by
  cases e <;> simp [Exc.code]

/-- Settles O41: an entry sets the code of its exception, and every other step changes CAUSE outside ExcCode. -/
theorem onlyListedExceptionCodes : Obligations.OnlyListedExceptionCodes := by
  intro s t h
  rcases step_cop0_entered_or_kept h with hx | ⟨_, hmask⟩
  · obtain ⟨e, ce, _, hcause, _⟩ := hx.spec
    rw [hcause, Cause.enter_excCode]
    exact .inr e.code_mem
  · exact .inl (field_eq_of_and_eq hmask (by decide))

/-! ### The interrupt lines (R1041) -/

theorem Cause.setLines_lines (c : Word) (l : BitVec 6) : (Cause.setLines c l).extractLsb' 10 6 = l := by
  apply BitVec.eq_of_getLsbD_eq
  intro i hi
  simp only [Cause.setLines, BitVec.getLsbD_extractLsb']
  interval_cases i <;> simp

theorem Cause.setLines_mask (c : Word) (l : BitVec 6) :
    Cause.setLines c l &&& ~~~0x0000FC00#32 = c &&& ~~~0x0000FC00#32 := by
  apply BitVec.eq_of_getLsbD_eq
  intro i hi
  simp only [Cause.setLines]
  interval_cases i <;> simp

/-- Settles O58. -/
theorem interruptLinesSetCauseBits : Obligations.InterruptLinesSetCauseBits := fun s l =>
  ⟨Cause.setLines_lines s.cop0.cause l, Cause.setLines_mask s.cop0.cause l, rfl⟩

end Sys2Proof.Machine
end

section
/-! PROOFS. The reset and hazard family (70_reset_and_hazards.md): which instructions raise the HI/LO hazard fault, and the
state LoadExe leaves. -/

namespace Sys2Proof.Machine

/-! ### The HI/LO hazard fault (R1141) -/

/-- The instructions that write HI or LO, which make the hazard check (R1141). -/
def writesHiLo : Instr → Bool
  | .mult .. | .multu .. | .div .. | .divu .. | .mthi _ | .mtlo _ => true
  | _ => false

theorem writesHiLo_iff {i : Instr} : writesHiLo i = true ↔
    (∃ rs rt, i = .mult rs rt ∨ i = .multu rs rt ∨ i = .div rs rt ∨ i = .divu rs rt) ∨ ∃ rs, i = .mthi rs ∨ i = .mtlo rs := by
  constructor
  · intro h
    cases i
    case mult rs rt | multu rs rt | div rs rt | divu rs rt => exact .inl ⟨rs, rt, by simp⟩
    case mthi rs | mtlo rs => exact .inr ⟨rs, by simp⟩
    all_goals cases h
  · rintro (⟨_, _, rfl | rfl | rfl | rfl⟩ | ⟨_, rfl | rfl⟩)
    all_goals rfl

/-- They share the one operation that makes the check. -/
theorem exec_of_writesHiLo {i : Instr} (h : writesHiLo i = true) (s : State) : ∃ hi lo, exec i s = s.completeHiLo hi lo := by
  cases i
  all_goals cases h
  all_goals exact ⟨_, _, rfl⟩

/-- The outcome is a next state or a refusal. -/
def NeverFaults (o : Host.Outcome State Fault Refusal) : Prop := ∀ f, o ≠ .fault f

theorem neverFaults_next {t : State} : NeverFaults (.next t) := nofun
theorem neverFaults_refused {r : Refusal} : NeverFaults (.refused r) := nofun

theorem neverFaults_ite {b : Bool} {o₁ o₂ : Host.Outcome State Fault Refusal} (h₁ : NeverFaults o₁) (h₂ : NeverFaults o₂) :
    NeverFaults (if b then o₁ else o₂) := by
  cases b
  · exact h₂
  · exact h₁

theorem neverFaults_withCop0 {s : State} {k : Host.Outcome State Fault Refusal} (h : NeverFaults k) :
    NeverFaults (s.withCop0 k) := neverFaults_ite neverFaults_next h

/-- The other instructions pass no check that can fault: each is one shared operation, which raises, completes or is
refused. -/
theorem exec_neverFaults {i : Instr} (h : writesHiLo i = false) (s : State) : NeverFaults (exec i s) := by
  by_cases hgroup : (isReserved i || isBranchOrJump i) = true
  · rcases Bool.or_eq_true_iff.mp hgroup with hres | hbranch
    · rw [exec_of_isReserved hres]
      exact neverFaults_next
    · obtain ⟨e, he⟩ := exec_of_isBranchOrJump hbranch s
      rw [he]
      exact neverFaults_ite neverFaults_refused neverFaults_next
  cases i
  case sll | srl | sra | sllv | srlv | srav | addu | subu | and | or | xor | nor | slt | sltu | addiu | slti | sltiu | andi
      | ori | xori | lui | mfhi | mflo | syscall | brk | cop1 | cop3 | lwc1 | lwc3 | swc1 | swc3 =>
    exact neverFaults_next
  case add | sub | addi | lb | lbu | lh | lhu | lw | lwl | lwr | sb | sh | sw | swl | swr =>
    exact neverFaults_ite neverFaults_next neverFaults_next
  case cop2 | lwc2 | swc2 => exact neverFaults_ite neverFaults_refused neverFaults_next
  case lwc0 | swc0 => exact neverFaults_withCop0 (neverFaults_ite neverFaults_next neverFaults_next)
  case mfc0 | mtc0 | bc0f | bc0t | cfc0 | ctc0 | rfe | cop0Generic => exact neverFaults_withCop0 neverFaults_next
  case cop0Rs01 | cop0Rs03 | cop0Rs05 | cop0Rs07 | cop0Rs09 | cop0Rs0A | cop0Rs0B | cop0Rs0C | cop0Rs0D | cop0Rs0E
      | cop0Rs0F | cop0Rs08Other =>
    exact neverFaults_withCop0 neverFaults_refused
  case mult | multu | div | divu | mthi | mtlo => cases h
  -- Left are the reserved instructions and the branches, treated above.
  all_goals exact absurd rfl hgroup

theorem State.completeHiLo_fault_iff {s : State} {h l : Word} : s.completeHiLo h l = .fault .hiloHazard ↔ s.hazard := by
  refine ⟨fun hf => ?_, fun hz => State.completeHiLo_hazard hz h l⟩
  by_contra hz
  obtain ⟨t, ht, _⟩ := State.completeHiLo_spec (Bool.eq_false_iff.mpr (mt State.hiloBlocked_iff.mp hz)) h l
  rw [ht] at hf
  cases hf

/-- Settles O8: the six share the operation with the check, and no other instruction faults. -/
theorem hiLoHazardFaultsExactly : Obligations.HiLoHazardFaultsExactly := by
  intro i s
  rw [← writesHiLo_iff, ← and_assoc]
  cases hw : writesHiLo i
  case false => exact iff_of_false (exec_neverFaults hw s _) (by simp)
  case true =>
    obtain ⟨h, l, he⟩ := exec_of_writesHiLo hw s
    rw [he, State.completeHiLo_fault_iff, and_iff_left rfl, State.hazard]

/-! ### LoadExe (R1120) -/

theorem Memory.bios_hostCopy {c : Params} : ∀ (bytes : List Byte) (m : Memory) (a : Word),
    (m.hostCopy c a bytes).bios = m.bios
  | [], _, _ => rfl
  | b :: rest, m, _ => (bios_hostCopy rest _ _).trans (Memory.bios_store m false _ b)

theorem State.loadRegs_of_base_eq_zero {file : List Byte} (h : fileWord file 0x30 = 0#32) (s : State) :
    s.loadRegs file = s.writeGpr 28 (fileWord file 0x14) := if_pos h

theorem State.loadRegs_of_base_ne_zero {file : List Byte} (h : fileWord file 0x30 ≠ 0#32) (s : State) :
    s.loadRegs file = ((s.writeGpr 28 (fileWord file 0x14)).writeGpr 29
      (fileWord file 0x30 + fileWord file 0x34)).writeGpr 30 (fileWord file 0x30 + fileWord file 0x34) := if_neg h

theorem State.loadRegs_frame (s : State) (file : List Byte) :
    (s.loadRegs file).hi = s.hi ∧ (s.loadRegs file).lo = s.lo ∧ (s.loadRegs file).cop0 = s.cop0 ∧
      (s.loadRegs file).events = s.events := by
  by_cases hb : fileWord file 0x30 = 0#32
  · rw [State.loadRegs_of_base_eq_zero hb]
    exact ⟨rfl, rfl, rfl, rfl⟩
  · rw [State.loadRegs_of_base_ne_zero hb]
    exact ⟨rfl, rfl, rfl, rfl⟩

/-- The registers LoadExe leaves are those of its register writes. -/
theorem State.x_loadExe (s : State) (file : List Byte) (r : Reg) : (s.act (.loadExe file)).x r = (s.loadRegs file).x r := rfl

theorem State.x_loadRegs (s : State) (file : List Byte) (r : Reg) : (s.loadRegs file).x r =
    if r = 28 then fileWord file 0x14
    else if fileWord file 0x30 ≠ 0#32 ∧ (r = 29 ∨ r = 30) then fileWord file 0x30 + fileWord file 0x34
    else s.x r := by
  by_cases hb : fileWord file 0x30 = 0#32
  · rw [State.loadRegs_of_base_eq_zero hb]
    grind [State.x_writeGpr, State.x_zero]
  · rw [State.loadRegs_of_base_ne_zero hb]
    grind [State.x_writeGpr, State.x_zero]

/-- Settles O59: the registers are those of the register writes, which touch nothing else, and the copy spares the BIOS. -/
theorem loadExeSetsTheInitialRegisters : Obligations.LoadExeSetsTheInitialRegisters := by
  rintro s file base rfl
  simp only [State.x_loadExe, State.x_loadRegs]
  obtain ⟨hhi, hlo, hcop0, hevents⟩ := s.loadRegs_frame file
  refine ⟨rfl, rfl, fun hb => ?_, fun hb => ?_, fun r h28 h29 h30 => ?_, rfl, rfl, rfl, hhi, hlo, hcop0,
    Memory.bios_hostCopy .., hevents⟩
  · simp [hb]
  · simp [hb]
  · simp [h28, h29, h30]

end Sys2Proof.Machine
end
